-- ==== Sys2Proof/Word.lean ====
section
/-! DEFINITION. The word types of the block (00_scope.md R7, R10). -/

namespace Sys2Proof

/-- `u8`: the data bus, the ports and every 8-bit register (00_scope.md R7, R10). -/
abbrev Byte := BitVec 8

/-- `u16`: the two timer counters (00_scope.md R7). -/
abbrev Half := BitVec 16

end Sys2Proof
end

