-- ==== Sys2Proof/Config.lean ====
section
/-! DEFINITION. What the spec leaves to an implementation (00_scope.md R8), and the free values of the fields that
RESET and INIT leave unspecified (10_state.md R67, 46_system_snapshot.md R320, R321). None of these constants has a
body, so nothing can be proved of their values beyond their types. -/

namespace Sys2Proof.Config

/-- `T1_LATENCY` less one; the type holds R8's constraint 1 <= L1 <= 255 (D11, OPEN; entry 5). -/
opaque t1LatencyPred : Fin 255

/-- `T2_LATENCY` less one; 1 <= L2 <= 255, independent of Timer 1's (D12, OPEN; entry 5). -/
opaque t2LatencyPred : Fin 255

/-- `L1` of R8: cycles from the zero cycle of Timer 1 to its underflow action. -/
def t1Latency : Nat := t1LatencyPred.val + 1

/-- `L2` of R8: the same for Timer 2 in timed mode. -/
def t2Latency : Nat := t2LatencyPred.val + 1

theorem t1Latency_pos : 1 ≤ t1Latency := Nat.succ_le_succ (Nat.zero_le _)
theorem t1Latency_le : t1Latency ≤ 255 := Nat.succ_le_of_lt t1LatencyPred.isLt
theorem t2Latency_pos : 1 ≤ t2Latency := Nat.succ_le_succ (Nat.zero_le _)
theorem t2Latency_le : t2Latency ≤ 255 := Nat.succ_le_of_lt t2LatencyPred.isLt

/-- `BASE` of R8: where the 16-address window sits in the host's address space. No rule reads it (D42; entry 6). -/
opaque base : Nat

/-- The kinds of host interrupt line R8 names for `IRQ_KIND`, and any other by a number. -/
inductive IrqKind where
  | maskable
  | nonMaskable
  | other (line : Nat)
deriving DecidableEq, Repr, Inhabited

/-- `IRQ_KIND` of R8: which host interrupt line `irq_out` drives. No rule reads it (D42; entry 6). -/
opaque irqKind : IrqKind

/-- `any u8`: the value of an unspecified byte at the n-th draw (00_scope.md R11; entry 4). -/
opaque freeByte : Nat → Byte

/-- `any u16`: the value of an unspecified counter at the n-th draw (00_scope.md R11; entry 4). -/
opaque freeHalf : Nat → Half

/-- `any bit`: the value of an unspecified one-bit field at the n-th draw (00_scope.md R11; entry 4). -/
opaque freeBit : Nat → Bool

end Sys2Proof.Config
end

