-- ==== Sys2Proof/Syntax.lean ====
section
/-! DEFINITION. The operations of the block, one constructor for each row of spec/opcode_table.json
(30_encoding.md R100, R105 to R109). An operation is what another machine calls an instruction. -/

namespace Sys2Proof

/-- The operations the environment can present. The operand of a STORE is its data byte; the operand of
SNAPR is the snapshot payload, 22 bytes when well formed (R101, format EVTS). The pins are no operand: they
are signals beside the operation (R102) and stand in the machine state. -/
inductive Instr where
  /-- R240: STORE to address 0, port B output latch. -/
  | stOrb (v : Byte)
  /-- R241: STORE to address 1, port A output latch. -/
  | stOra (v : Byte)
  /-- R242: STORE to address 2, port B direction register. -/
  | stDdrb (v : Byte)
  /-- R243: STORE to address 3, port A direction register. -/
  | stDdra (v : Byte)
  /-- R244: STORE to address 4, Timer 1 counter low. -/
  | stT1cl (v : Byte)
  /-- R245: STORE to address 5, Timer 1 counter high. -/
  | stT1ch (v : Byte)
  /-- R246: STORE to address 6, Timer 1 latch low. -/
  | stT1ll (v : Byte)
  /-- R247: STORE to address 7, Timer 1 latch high. -/
  | stT1lh (v : Byte)
  /-- R248: STORE to address 8, Timer 2 low. -/
  | stT2cl (v : Byte)
  /-- R249: STORE to address 9, Timer 2 high. -/
  | stT2ch (v : Byte)
  /-- R250: STORE to address 10, shift register. -/
  | stSr (v : Byte)
  /-- R251: STORE to address 11, auxiliary control register. -/
  | stAcr (v : Byte)
  /-- R252: STORE to address 12, peripheral control register. -/
  | stPcr (v : Byte)
  /-- R253: STORE to address 13, interrupt flag register. -/
  | stIfr (v : Byte)
  /-- R254: STORE to address 14, interrupt enable register. -/
  | stIer (v : Byte)
  /-- R255: STORE to address 15, port A without handshake. -/
  | stOrax (v : Byte)
  /-- R270: READ of address 0, port B output latch. -/
  | rdOrb
  /-- R271: READ of address 1, port A output latch. -/
  | rdOra
  /-- R272: READ of address 2, port B direction register. -/
  | rdDdrb
  /-- R273: READ of address 3, port A direction register. -/
  | rdDdra
  /-- R274: READ of address 4, Timer 1 counter low. -/
  | rdT1cl
  /-- R275: READ of address 5, Timer 1 counter high. -/
  | rdT1ch
  /-- R276: READ of address 6, Timer 1 latch low. -/
  | rdT1ll
  /-- R277: READ of address 7, Timer 1 latch high. -/
  | rdT1lh
  /-- R278: READ of address 8, Timer 2 low. -/
  | rdT2cl
  /-- R279: READ of address 9, Timer 2 high. -/
  | rdT2ch
  /-- R280: READ of address 10, shift register. -/
  | rdSr
  /-- R281: READ of address 11, auxiliary control register. -/
  | rdAcr
  /-- R282: READ of address 12, peripheral control register. -/
  | rdPcr
  /-- R283: READ of address 13, interrupt flag register. -/
  | rdIfr
  /-- R284: READ of address 14, interrupt enable register. -/
  | rdIer
  /-- R285: READ of address 15, port A without handshake. -/
  | rdOrax
  /-- R286: PEEK of address 0, port B output latch. -/
  | pkOrb
  /-- R287: PEEK of address 1, port A output latch. -/
  | pkOra
  /-- R288: PEEK of address 2, port B direction register. -/
  | pkDdrb
  /-- R289: PEEK of address 3, port A direction register. -/
  | pkDdra
  /-- R290: PEEK of address 4, Timer 1 counter low. -/
  | pkT1cl
  /-- R291: PEEK of address 5, Timer 1 counter high. -/
  | pkT1ch
  /-- R292: PEEK of address 6, Timer 1 latch low. -/
  | pkT1ll
  /-- R293: PEEK of address 7, Timer 1 latch high. -/
  | pkT1lh
  /-- R294: PEEK of address 8, Timer 2 low. -/
  | pkT2cl
  /-- R295: PEEK of address 9, Timer 2 high. -/
  | pkT2ch
  /-- R296: PEEK of address 10, shift register. -/
  | pkSr
  /-- R297: PEEK of address 11, auxiliary control register. -/
  | pkAcr
  /-- R298: PEEK of address 12, peripheral control register. -/
  | pkPcr
  /-- R299: PEEK of address 13, interrupt flag register. -/
  | pkIfr
  /-- R300: PEEK of address 14, interrupt enable register. -/
  | pkIer
  /-- R301: PEEK of address 15, port A without handshake. -/
  | pkOrax
  /-- R130: one cycle of the clock. -/
  | tick
  /-- R320: force power-on defaults. -/
  | reset
  /-- R321: attach, all state machines disabled. -/
  | init
  /-- R322: write a snapshot. -/
  | snapw
  /-- R326: restore a snapshot from its payload. -/
  | snapr (payload : List Byte)
  /-- R192: falling edge notified on CA1. -/
  | edgeCa1Fall
  /-- R192: rising edge notified on CA1. -/
  | edgeCa1Rise
  /-- R193: falling edge notified on CA2. -/
  | edgeCa2Fall
  /-- R193: rising edge notified on CA2. -/
  | edgeCa2Rise
  /-- R194: falling edge notified on CB1. -/
  | edgeCb1Fall
  /-- R194: rising edge notified on CB1. -/
  | edgeCb1Rise
  /-- R195: falling edge notified on CB2. -/
  | edgeCb2Fall
  /-- R195: rising edge notified on CB2. -/
  | edgeCb2Rise
  /-- R140: falling edge notified on PB6. -/
  | edgePb6Fall
  /-- R140: rising edge notified on PB6. -/
  | edgePb6Rise
deriving DecidableEq, Repr

end Sys2Proof
end

