-- ==== Sys2Proof/WellFormed.lean ====
section
/-! DEFINITION. When an operation is well formed. The only operand that can be out of its format is the
payload of SNAPR: 22 bytes (30_encoding.md R101). Every data byte is legal for every STORE (R110). -/

namespace Sys2Proof

/-- The number of payload bytes of SNAPR (30_encoding.md R101, 46_system_snapshot.md R323). -/
def snapshotLength : Nat := 22

/-- R101 and R110: an operation has the operand bytes of its format and no others. -/
def Instr.wellFormed (i : Instr) : Bool :=
  match i with
  | .stOrb _ => true
  | .stOra _ => true
  | .stDdrb _ => true
  | .stDdra _ => true
  | .stT1cl _ => true
  | .stT1ch _ => true
  | .stT1ll _ => true
  | .stT1lh _ => true
  | .stT2cl _ => true
  | .stT2ch _ => true
  | .stSr _ => true
  | .stAcr _ => true
  | .stPcr _ => true
  | .stIfr _ => true
  | .stIer _ => true
  | .stOrax _ => true
  | .rdOrb => true
  | .rdOra => true
  | .rdDdrb => true
  | .rdDdra => true
  | .rdT1cl => true
  | .rdT1ch => true
  | .rdT1ll => true
  | .rdT1lh => true
  | .rdT2cl => true
  | .rdT2ch => true
  | .rdSr => true
  | .rdAcr => true
  | .rdPcr => true
  | .rdIfr => true
  | .rdIer => true
  | .rdOrax => true
  | .pkOrb => true
  | .pkOra => true
  | .pkDdrb => true
  | .pkDdra => true
  | .pkT1cl => true
  | .pkT1ch => true
  | .pkT1ll => true
  | .pkT1lh => true
  | .pkT2cl => true
  | .pkT2ch => true
  | .pkSr => true
  | .pkAcr => true
  | .pkPcr => true
  | .pkIfr => true
  | .pkIer => true
  | .pkOrax => true
  | .tick => true
  | .reset => true
  | .init => true
  | .snapw => true
  | .snapr payload => payload.length == snapshotLength
  | .edgeCa1Fall => true
  | .edgeCa1Rise => true
  | .edgeCa2Fall => true
  | .edgeCa2Rise => true
  | .edgeCb1Fall => true
  | .edgeCb1Rise => true
  | .edgeCb2Fall => true
  | .edgeCb2Rise => true
  | .edgePb6Fall => true
  | .edgePb6Rise => true

end Sys2Proof
end

