-- ==== Sys2Proof/Decode.lean ====
section
/-! DEFINITION. The decoder of command bytes (30_encoding.md R114), total on any bytes and rejecting by name, the
encoder written from the same tables (R101, R105 to R109), the words of the opcode table laid out as bytes, and the
pseudo-operations of R113. -/

namespace Sys2Proof

/-- Why a byte sequence is not an operation. -/
inductive DecodeError where
  /-- No byte at all: the environment has presented no operation. -/
  | noOperation
  /-- R110: the command byte names no operation. -/
  | invalidCommand (cmd : Byte)
  /-- R101: fewer operand bytes follow the command byte than its format has. -/
  | truncated (cmd : Byte)
deriving DecidableEq, Repr

/-- The lines an EDGE operation can name (10_state.md R61, 30_encoding.md R103). -/
inductive Line where
  | ca1 | ca2 | cb1 | cb2 | pb6
deriving DecidableEq, Repr

/-- What a command byte alone decides (R114). -/
inductive Kind where
  | store (a : BitVec 4)
  | read (a : BitVec 4)
  | peek (a : BitVec 4)
  | tick
  | reset
  | init
  | snapw
  | snapr
  | edge (line : Line) (level : Bool)
  | invalid
deriving DecidableEq, Repr

/-- R103: line 0 to 4; 5, 6 and 7 are reserved. -/
def lineOf (n : BitVec 3) : Option Line :=
  match n.toNat with
  | 0 => some .ca1
  | 1 => some .ca2
  | 2 => some .cb1
  | 3 => some .cb2
  | 4 => some .pb6
  | _ => none

/-- R108: the control events; a number above 4 names no operation. -/
def controlKind (a : BitVec 4) : Kind :=
  match a.toNat with
  | 0 => .tick
  | 1 => .reset
  | 2 => .init
  | 3 => .snapw
  | 4 => .snapr
  | _ => .invalid

/-- R109: `a[3:1]` is the line, `a[0]` the level. -/
def edgeKind (a : BitVec 4) : Kind :=
  match lineOf (a.extractLsb' 1 3) with
  | some line => .edge line (a.getLsbD 0)
  | none => .invalid

/-- R114: a decoder of command bytes, by the fields `cls`, `sub` and `a` of R101. -/
def decodeCmd (cmd : Byte) : Kind :=
  let cls : BitVec 2 := cmd.extractLsb' 6 2
  let sub : BitVec 2 := cmd.extractLsb' 4 2
  let a : BitVec 4 := cmd.extractLsb' 0 4
  match cls.toNat, sub.toNat with
  | 0, 0 => .store a
  | 1, 0 => .read a
  | 2, 0 => .peek a
  | 3, 0 => controlKind a
  | 3, 1 => edgeKind a
  | _, _ => .invalid

/-- R104, R105: the STORE at a 4-bit address; the last arm is address 15 and no other, by the width of `a`. -/
def storeOp (a : BitVec 4) (v : Byte) : Instr :=
  match a.toNat with
  | 0 => .stOrb v
  | 1 => .stOra v
  | 2 => .stDdrb v
  | 3 => .stDdra v
  | 4 => .stT1cl v
  | 5 => .stT1ch v
  | 6 => .stT1ll v
  | 7 => .stT1lh v
  | 8 => .stT2cl v
  | 9 => .stT2ch v
  | 10 => .stSr v
  | 11 => .stAcr v
  | 12 => .stPcr v
  | 13 => .stIfr v
  | 14 => .stIer v
  | _ => .stOrax v

/-- R104, R106: the READ of a 4-bit address. -/
def readOp (a : BitVec 4) : Instr :=
  match a.toNat with
  | 0 => .rdOrb
  | 1 => .rdOra
  | 2 => .rdDdrb
  | 3 => .rdDdra
  | 4 => .rdT1cl
  | 5 => .rdT1ch
  | 6 => .rdT1ll
  | 7 => .rdT1lh
  | 8 => .rdT2cl
  | 9 => .rdT2ch
  | 10 => .rdSr
  | 11 => .rdAcr
  | 12 => .rdPcr
  | 13 => .rdIfr
  | 14 => .rdIer
  | _ => .rdOrax

/-- R104, R107: the PEEK of a 4-bit address. -/
def peekOp (a : BitVec 4) : Instr :=
  match a.toNat with
  | 0 => .pkOrb
  | 1 => .pkOra
  | 2 => .pkDdrb
  | 3 => .pkDdra
  | 4 => .pkT1cl
  | 5 => .pkT1ch
  | 6 => .pkT1ll
  | 7 => .pkT1lh
  | 8 => .pkT2cl
  | 9 => .pkT2ch
  | 10 => .pkSr
  | 11 => .pkAcr
  | 12 => .pkPcr
  | 13 => .pkIfr
  | 14 => .pkIer
  | _ => .pkOrax

/-- R109: the EDGE of a line to a level. -/
def edgeOp (line : Line) (level : Bool) : Instr :=
  match line, level with
  | .ca1, false => .edgeCa1Fall
  | .ca1, true => .edgeCa1Rise
  | .ca2, false => .edgeCa2Fall
  | .ca2, true => .edgeCa2Rise
  | .cb1, false => .edgeCb1Fall
  | .cb1, true => .edgeCb1Rise
  | .cb2, false => .edgeCb2Fall
  | .cb2, true => .edgeCb2Rise
  | .pb6, false => .edgePb6Fall
  | .pb6, true => .edgePb6Rise

/-- R101, R114: the first operation of a byte sequence and the bytes after it, or why there is none. -/
def decode (bytes : List Byte) : Except DecodeError (Instr × List Byte) :=
  match bytes with
  | [] => .error .noOperation
  | cmd :: tail =>
    match decodeCmd cmd with
    | .store a =>
      match tail with
      | [] => .error (.truncated cmd)
      | v :: rest => .ok (storeOp a v, rest)
    | .read a => .ok (readOp a, tail)
    | .peek a => .ok (peekOp a, tail)
    | .tick => .ok (.tick, tail)
    | .reset => .ok (.reset, tail)
    | .init => .ok (.init, tail)
    | .snapw => .ok (.snapw, tail)
    | .snapr =>
      if snapshotLength ≤ tail.length then
        .ok (.snapr (tail.take snapshotLength), tail.drop snapshotLength)
      else .error (.truncated cmd)
    | .edge line level => .ok (edgeOp line level, tail)
    | .invalid => .error (.invalidCommand cmd)

/-- R101: the number of bytes of an operation, decided by its command byte alone. -/
def operationLength (cmd : Byte) : Nat :=
  if cmd.extractLsb' 6 2 = 0#2 then 2
  else if cmd = 0xC4#8 then 23
  else 1

/-- R105 to R109: the command byte of each operation. -/
def cmdOf (i : Instr) : Byte :=
  match i with
  | .stOrb _ => 0x00#8
  | .stOra _ => 0x01#8
  | .stDdrb _ => 0x02#8
  | .stDdra _ => 0x03#8
  | .stT1cl _ => 0x04#8
  | .stT1ch _ => 0x05#8
  | .stT1ll _ => 0x06#8
  | .stT1lh _ => 0x07#8
  | .stT2cl _ => 0x08#8
  | .stT2ch _ => 0x09#8
  | .stSr _ => 0x0A#8
  | .stAcr _ => 0x0B#8
  | .stPcr _ => 0x0C#8
  | .stIfr _ => 0x0D#8
  | .stIer _ => 0x0E#8
  | .stOrax _ => 0x0F#8
  | .rdOrb => 0x40#8
  | .rdOra => 0x41#8
  | .rdDdrb => 0x42#8
  | .rdDdra => 0x43#8
  | .rdT1cl => 0x44#8
  | .rdT1ch => 0x45#8
  | .rdT1ll => 0x46#8
  | .rdT1lh => 0x47#8
  | .rdT2cl => 0x48#8
  | .rdT2ch => 0x49#8
  | .rdSr => 0x4A#8
  | .rdAcr => 0x4B#8
  | .rdPcr => 0x4C#8
  | .rdIfr => 0x4D#8
  | .rdIer => 0x4E#8
  | .rdOrax => 0x4F#8
  | .pkOrb => 0x80#8
  | .pkOra => 0x81#8
  | .pkDdrb => 0x82#8
  | .pkDdra => 0x83#8
  | .pkT1cl => 0x84#8
  | .pkT1ch => 0x85#8
  | .pkT1ll => 0x86#8
  | .pkT1lh => 0x87#8
  | .pkT2cl => 0x88#8
  | .pkT2ch => 0x89#8
  | .pkSr => 0x8A#8
  | .pkAcr => 0x8B#8
  | .pkPcr => 0x8C#8
  | .pkIfr => 0x8D#8
  | .pkIer => 0x8E#8
  | .pkOrax => 0x8F#8
  | .tick => 0xC0#8
  | .reset => 0xC1#8
  | .init => 0xC2#8
  | .snapw => 0xC3#8
  | .snapr _ => 0xC4#8
  | .edgeCa1Fall => 0xD0#8
  | .edgeCa1Rise => 0xD1#8
  | .edgeCa2Fall => 0xD2#8
  | .edgeCa2Rise => 0xD3#8
  | .edgeCb1Fall => 0xD4#8
  | .edgeCb1Rise => 0xD5#8
  | .edgeCb2Fall => 0xD6#8
  | .edgeCb2Rise => 0xD7#8
  | .edgePb6Fall => 0xD8#8
  | .edgePb6Rise => 0xD9#8

/-- R101: the operand bytes of each operation. -/
def operandsOf (i : Instr) : List Byte :=
  match i with
  | .stOrb v => [v]
  | .stOra v => [v]
  | .stDdrb v => [v]
  | .stDdra v => [v]
  | .stT1cl v => [v]
  | .stT1ch v => [v]
  | .stT1ll v => [v]
  | .stT1lh v => [v]
  | .stT2cl v => [v]
  | .stT2ch v => [v]
  | .stSr v => [v]
  | .stAcr v => [v]
  | .stPcr v => [v]
  | .stIfr v => [v]
  | .stIer v => [v]
  | .stOrax v => [v]
  | .rdOrb => []
  | .rdOra => []
  | .rdDdrb => []
  | .rdDdra => []
  | .rdT1cl => []
  | .rdT1ch => []
  | .rdT1ll => []
  | .rdT1lh => []
  | .rdT2cl => []
  | .rdT2ch => []
  | .rdSr => []
  | .rdAcr => []
  | .rdPcr => []
  | .rdIfr => []
  | .rdIer => []
  | .rdOrax => []
  | .pkOrb => []
  | .pkOra => []
  | .pkDdrb => []
  | .pkDdra => []
  | .pkT1cl => []
  | .pkT1ch => []
  | .pkT1ll => []
  | .pkT1lh => []
  | .pkT2cl => []
  | .pkT2ch => []
  | .pkSr => []
  | .pkAcr => []
  | .pkPcr => []
  | .pkIfr => []
  | .pkIer => []
  | .pkOrax => []
  | .tick => []
  | .reset => []
  | .init => []
  | .snapw => []
  | .snapr payload => payload
  | .edgeCa1Fall => []
  | .edgeCa1Rise => []
  | .edgeCa2Fall => []
  | .edgeCa2Rise => []
  | .edgeCb1Fall => []
  | .edgeCb1Rise => []
  | .edgeCb2Fall => []
  | .edgeCb2Rise => []
  | .edgePb6Fall => []
  | .edgePb6Rise => []

/-- R101: the bytes of an operation. -/
def encode (i : Instr) : List Byte := cmdOf i :: operandsOf i

/-- The longest operation, in bytes: SNAPR (R101). -/
def maxOperationLength : Nat := 23

/-- The first `n` bytes of a number, the least significant first. -/
def layBytes (n w : Nat) : List Byte :=
  match n with
  | 0 => []
  | k + 1 => BitVec.ofNat 8 w :: layBytes k (w / 256)

/-- An instruction of `nbits` bits `w`, byte 0 in bits 7..0, with zeros above up to the longest operation. -/
def tableBytes (nbits w : Nat) : List Byte := layBytes maxOperationLength (w % 2 ^ nbits)

/-- The operation the decoder reads from an opcode-table word. -/
def decodeTableWord (nbits w : Nat) : Option Instr :=
  match decode (tableBytes nbits w) with
  | .ok (i, _) => some i
  | .error _ => none

/-- R113: `TICK n`. -/
def pseudoTick (n : Nat) : List Instr := List.replicate n .tick

/-- R113: `LDT1 n`, low byte first, high byte last. -/
def pseudoLdt1 (n : Half) : List Instr :=
  [.stT1cl (n.extractLsb' 0 8), .stT1ch (n.extractLsb' 8 8)]

/-- R113: `LDT2 n`. -/
def pseudoLdt2 (n : Half) : List Instr :=
  [.stT2cl (n.extractLsb' 0 8), .stT2ch (n.extractLsb' 8 8)]

/-- R113: `IEN m`, enable the sources in m. -/
def pseudoIen (m : Byte) : Instr := .stIer (0x80#8 ||| (m &&& 0x7F#8))

/-- R113: `IDIS m`, disable the sources in m. -/
def pseudoIdis (m : Byte) : Instr := .stIer (m &&& 0x7F#8)

/-- R113: `IACK m`, clear the flags in m. -/
def pseudoIack (m : Byte) : Instr := .stIfr (m &&& 0x7F#8)

end Sys2Proof
end

