-- ==== Sys2Proof/Machine/State.lean ====
section
/-! DEFINITION. The state of one instance of the block (10_state.md R20), what an operation returns (R62, R65), what
the environment presents (R60, 30_encoding.md R101, R102), the reasons a step can stop, and the state after reset. -/

namespace Sys2Proof.Machine

/-- R62: the output events, one for each callback of the adapter or of the interrupt controller. A level is `true`
for 1 (high) and `false` for 0 (low) (00_scope.md R10). -/
inductive Event where
  /-- `PORTA(ora, ddra)`: STORE to 1, 3, 15. -/
  | portA (ora ddra : Byte)
  /-- `PORTB(orb, ddrb)`: STORE to 0, 2. -/
  | portB (orb ddrb : Byte)
  /-- `PCR(v)`: STORE to 12. -/
  | pcr (v : Byte)
  /-- `ACR(v)`: STORE to 11. -/
  | acr (v : Byte)
  /-- `SR(v)`: STORE to 10. -/
  | sr (v : Byte)
  /-- `T2L(v)`: STORE to 8. -/
  | t2l (v : Byte)
  /-- `CA2(level)`: PCR store, port A access. -/
  | ca2 (level : Bool)
  /-- `CB2(level)`: PCR store, port B access, shift out. -/
  | cb2 (level : Bool)
  /-- `T1OUT(level)`: Timer 1 continuous underflow with `acr[7]` = 1. -/
  | t1out (level : Bool)
  /-- `IRQ(level)`: every `irq_update()`. -/
  | irq (level : Bool)
  /-- `UNDUMP_PORTA(ora, ddra)`: SNAPR. -/
  | undumpPortA (ora ddra : Byte)
  /-- `UNDUMP_PORTB(orb, ddrb)`: SNAPR. -/
  | undumpPortB (orb ddrb : Byte)
  /-- `UNDUMP_PCR(v)`: SNAPR. -/
  | undumpPcr (v : Byte)
  /-- `UNDUMP_ACR(v)`: SNAPR. -/
  | undumpAcr (v : Byte)
  /-- `IRQ_RESTORE(level)`: SNAPR. -/
  | irqRestore (level : Bool)
  /-- `ADAPTER_RESET`: RESET. -/
  | adapterReset
deriving DecidableEq, Repr

/-- R65: what an operation returns beside its events. -/
inductive Result where
  /-- Nothing but the event list. -/
  | none
  /-- The byte of a READ or a PEEK. -/
  | byte (v : Byte)
  /-- The bytes of SNAPW. -/
  | snapshot (bytes : List Byte)
  /-- SNAPR restored the state. -/
  | ok
  /-- SNAPR refused its payload (SnapshotFormatError, 60_exceptions.md R342). -/
  | formatError
deriving DecidableEq, Repr

/-- The two input buses beside an operation (R60). -/
structure Pins where
  pa : Byte
  pb : Byte
deriving DecidableEq, Repr

/-- One instance of the block. The first 26 fields are R20's, and R20 says the block holds exactly those. The last
seven are the MODEL's own: what the last operation returned, what the environment presents, and the count of free
values drawn (entries 1, 2, 4 and 7). -/
structure State where
  /-- `orb`, port B output latch. -/
  orb : Byte
  /-- `ora`, port A output latch. -/
  ora : Byte
  /-- `ddrb`, port B direction register, 1 = output (R22). -/
  ddrb : Byte
  /-- `ddra`, port A direction register. -/
  ddra : Byte
  /-- `t1c`, Timer 1 counter. -/
  t1c : Half
  /-- `t1ll`, Timer 1 latch, low byte. -/
  t1ll : Byte
  /-- `t1lh`, Timer 1 latch, high byte. -/
  t1lh : Byte
  /-- `t2c`, Timer 2 counter. -/
  t2c : Half
  /-- `t2ll`, Timer 2 one-byte latch. -/
  t2ll : Byte
  /-- `sr`, shift register. -/
  sr : Byte
  /-- `acr`, auxiliary control register (R37). -/
  acr : Byte
  /-- `pcr`, peripheral control register (R35). -/
  pcr : Byte
  /-- `ifr`, interrupt flag register; bit 7 derived (R32, R33). -/
  ifr : Byte
  /-- `ier`, interrupt enable register; bit 7 is 0 (R34). -/
  ier : Byte
  /-- `ila`, port A input latch (R23). -/
  ila : Byte
  /-- `ilb`, port B input latch. -/
  ilb : Byte
  /-- `t1_run`, Timer 1 running flag (R28). -/
  t1Run : Bool
  /-- `t1_fired`, Timer 1 one-shot-fired flag. -/
  t1Fired : Bool
  /-- `t1_pend`, cycles left before a Timer 1 underflow action that is due; 0 = none. -/
  t1Pend : Nat
  /-- `t1_out`, level of the Timer 1 toggle output line. -/
  t1Out : Bool
  /-- `t2_run`, Timer 2 running flag (R30). -/
  t2Run : Bool
  /-- `t2_pend`, the same as `t1_pend` for Timer 2. -/
  t2Pend : Nat
  /-- `sr_count`, shifts done since the last restart; 8 = halted (R31). -/
  srCount : Nat
  /-- `sr_phase`, divide-by-two phase of the every-second-cycle shift clock. -/
  srPhase : Bool
  /-- `ca2`, level of the secondary line of pair A (R39). -/
  ca2 : Bool
  /-- `cb2`, level of the secondary line of pair B. -/
  cb2 : Bool
  /-- MODEL: the event list of the last operation, in order (R62; entry 7). -/
  events : List Event
  /-- MODEL: the result of the last operation (R65; entry 7). -/
  result : Result
  /-- MODEL: `pa_in` beside the operation (R60; entry 2). -/
  paIn : Byte
  /-- MODEL: `pb_in` beside the operation. -/
  pbIn : Byte
  /-- MODEL: the pins presented with the coming operations, the next one first (entry 2). -/
  pinFeed : List Pins
  /-- MODEL: the command bytes presented and not yet performed (30_encoding.md R101; entry 1). -/
  stream : List Byte
  /-- MODEL: how many free values RESET and INIT have drawn (entry 4). -/
  draws : Nat
deriving DecidableEq, Repr

/-- Why the machine stops with a fault. There is no way: the block raises no trap and never stops responding
(60_exceptions.md R340, R356). The one error of the spec, SnapshotFormatError, is a RESULT of SNAPR with the state
unchanged, after which every operation remains legal (R342), so it is a next state here. Nothing raises a fault; safe,
since the spec names no condition that would (entry 9). -/
inductive Fault where
deriving DecidableEq, Repr

/-- Why a step is refused. All but `notModelled` come from the decoder, before any operation runs. -/
inductive Refusal where
  /-- An operation without a meaning. No arm of `exec` answers it: every row of the table has its meaning. Safe. -/
  | notModelled (mnemonic : String)
  /-- Raised by `step` when no command byte is presented: which operation happens is the environment's input
  (10_state.md R26), and without one nothing happens. Safe (entry 10). -/
  | noOperation
  /-- Raised by `step` on a command byte that names no operation: "a model must refuse a program that contains one"
  (30_encoding.md R110, 60_exceptions.md R344). Safe. -/
  | invalidCommand (cmd : Byte)
  /-- Raised by `step` when fewer operand bytes are presented than the format has (30_encoding.md R101). Safe
  (entry 10). -/
  | truncatedOperation (cmd : Byte)
deriving DecidableEq, Repr

/-- The machine right after the RESET operation (R67, 46_system_snapshot.md R320). The seven fields R67 calls
unspecified hold 0 HERE by choice (DESIGN CHOICE, unsafe, entry 3); the RESET operation itself draws free values for
them. Nothing is presented yet (entries 1 and 2). -/
def State.reset : State where
  orb := 0x00#8
  ora := 0x00#8
  ddrb := 0x00#8
  ddra := 0x00#8
  t1c := 0x0000#16
  t1ll := 0x00#8
  t1lh := 0x00#8
  t2c := 0x0000#16
  t2ll := 0x00#8
  sr := 0x00#8
  acr := 0x00#8
  pcr := 0x00#8
  ifr := 0x00#8
  ier := 0x00#8
  ila := 0x00#8
  ilb := 0x00#8
  t1Run := false
  t1Fired := false
  t1Pend := 0
  t1Out := true
  t2Run := false
  t2Pend := 0
  srCount := 8
  srPhase := false
  ca2 := true
  cb2 := true
  events := [.irq false, .adapterReset]
  result := .none
  paIn := 0xFF#8
  pbIn := 0xFF#8
  pinFeed := []
  stream := []
  draws := 0

end Sys2Proof.Machine
end

