-- ==== Sys2Proof/Machine/Operands.lean ====
section
/-! DEFINITION. The operand forms of the block: bytes of the 16-bit registers, the fields of PCR and ACR
(10_state.md R35 to R38), the composition of a port read (R24), and the level outputs (R25, R63). -/

namespace Sys2Proof.Machine

/-- `r[7:0]` of a counter (20_memory.md R83). -/
def lowByte (c : Half) : Byte := c.extractLsb' 0 8

/-- `r[15:8]` of a counter. -/
def highByte (c : Half) : Byte := c.extractLsb' 8 8

/-- `hi:lo`, the first byte in the high bits (00_scope.md R10). -/
def joinBytes (hi lo : Byte) : Half := hi ++ lo

/-- The byte with bit `k` equal to `b` and every other bit 0. -/
def bitAt (k : Nat) (b : Bool) : Byte := if b then 1#8 <<< k else 0#8

/-- `r[k] <- b`. -/
def withBit (r : Byte) (k : Nat) (b : Bool) : Byte := (r &&& ~~~(1#8 <<< k)) ||| bitAt k b

/-! ### PCR (R35, R36) -/

/-- `pcr[0]`, the active edge of CA1: true = rising. -/
def ca1Pol (pcr : Byte) : Bool := pcr.getLsbD 0

/-- `pcr[3:1]`, the mode of CA2. -/
def ca2Mode (pcr : Byte) : BitVec 3 := pcr.extractLsb' 1 3

/-- `pcr[4]`, the active edge of CB1. -/
def cb1Pol (pcr : Byte) : Bool := pcr.getLsbD 4

/-- `pcr[7:5]`, the mode of CB2. -/
def cb2Mode (pcr : Byte) : BitVec 3 := pcr.extractLsb' 5 3

/-- R36, code 1: input, falling edge, flag not cleared by port access. -/
abbrev modeInNegInd : BitVec 3 := 1#3

/-- R36, code 3: input, rising edge, flag not cleared by port access. -/
abbrev modeInPosInd : BitVec 3 := 3#3

/-- R36, code 4. -/
abbrev modeHandshake : BitVec 3 := 4#3

/-- R36, code 5. -/
abbrev modePulse : BitVec 3 := 5#3

/-- R36, code 6: output held at 0. -/
abbrev modeLow : BitVec 3 := 6#3

/-- R36: bit 2 of the code is the direction, 0 = input. -/
def modeIsInput (mode : BitVec 3) : Bool := !mode.getLsbD 2

/-- R36: in the input modes bit 1 of the code is the polarity, true = rising. -/
def modeRising (mode : BitVec 3) : Bool := mode.getLsbD 1

/-- R36, R201: the "independent" input modes, 1 and 3. -/
def modeIndependent (mode : BitVec 3) : Bool := mode == modeInNegInd || mode == modeInPosInd

/-! ### ACR (R37, R38) -/

/-- `acr[0]`, port A input latching. -/
def paLatch (acr : Byte) : Bool := acr.getLsbD 0

/-- `acr[1]`, port B input latching. -/
def pbLatch (acr : Byte) : Bool := acr.getLsbD 1

/-- `acr[3:2]`, the shift clock source. -/
def srSource (acr : Byte) : BitVec 2 := acr.extractLsb' 2 2

/-- `acr[4]`, shift direction: true = out. -/
def srOut (acr : Byte) : Bool := acr.getLsbD 4

/-- `acr[4:2]`, the whole shift mode (43_shift.md R220). -/
def srMode (acr : Byte) : BitVec 3 := acr.extractLsb' 2 3

/-- `acr[5]`, Timer 2 pulse counting. -/
def t2Pulse (acr : Byte) : Bool := acr.getLsbD 5

/-- `acr[6]`, Timer 1 continuous. -/
def t1Cont (acr : Byte) : Bool := acr.getLsbD 6

/-- `acr[7]`, Timer 1 output toggle. -/
def t1Toggle (acr : Byte) : Bool := acr.getLsbD 7

/-- R38, source 1: each Timer 2 underflow action. -/
abbrev sourceTimer2 : BitVec 2 := 1#2

/-- R38, source 2: every second TICK. -/
abbrev sourceCycle : BitVec 2 := 2#2

/-- R38, source 3: an edge notified on CB1. -/
abbrev sourceExternal : BitVec 2 := 3#2

/-! ### Ports (R23 to R25) -/

/-- R24: `PORT_VALUE_X`, per bit the output latch where the direction is output and the input where it is input. -/
def portValue (latch direction input : Byte) : Byte := (latch &&& direction) ||| (input &&& ~~~direction)

/-- R24: `ina`, the latch with latching on, the pins with latching off. -/
def State.inputA (s : State) : Byte := if paLatch s.acr then s.ila else s.paIn

/-- R24: `inb`. -/
def State.inputB (s : State) : Byte := if pbLatch s.acr then s.ilb else s.pbIn

/-- R24: what a read of port A gives. -/
def State.portAValue (s : State) : Byte := portValue s.ora s.ddra s.inputA

/-- R24: what a read of port B gives. -/
def State.portBValue (s : State) : Byte := portValue s.orb s.ddrb s.inputB

/-- R25: what the block drives on one port bit; `none` where the bit is an input. -/
def portPin (latch direction : Byte) (i : Fin 8) : Option Bool :=
  if direction.getLsbD i then some (latch.getLsbD i) else none

/-! ### Level outputs (R63) -/

/-- `irq_out = ifr[7]`. -/
def State.irqOut (s : State) : Bool := s.ifr.getLsbD 7

/-- `ca2_out = ca2`. -/
def State.ca2Out (s : State) : Bool := s.ca2

/-- `cb2_out = cb2`. -/
def State.cb2Out (s : State) : Bool := s.cb2

/-- The output `t1_out`. -/
def State.t1OutLevel (s : State) : Bool := s.t1Out

end Sys2Proof.Machine
end

