-- ==== Sys2Proof/Machine/Ops.lean ====
section
/-! DEFINITION. The operations every meaning is built from: beginning an operation, emitting an event, returning a
result, the format_error of SNAPR (the one error the block can report, 60_exceptions.md R340), loading the input
latches, and taking the next operation that the environment presents. -/

namespace Sys2Proof.Machine

/-- An operation begins with an empty event list and no result (10_state.md R62, R65). -/
def State.begin (s : State) : State := { s with events := [], result := .none }

/-- `emit E(args)` (00_scope.md R11): append one event. -/
def State.emit (s : State) (e : Event) : State := { s with events := s.events ++ [e] }

/-- `return v` of a READ or a PEEK (10_state.md R65). -/
def State.returnByte (s : State) (v : Byte) : State := { s with result := .byte v }

/-- `return ok` of SNAPR. -/
def State.returnOk (s : State) : State := { s with result := .ok }

/-- `return format_error` (46_system_snapshot.md R326, 60_exceptions.md R342): no field of the block changes, no
event. This is all there is of taking an exception: the block saves nothing, masks nothing and transfers no control,
and there is no return operation (60_exceptions.md R348, R349). -/
def State.formatError (s : State) : State := { s.begin with result := .formatError }

/-- 10_state.md R23: with latching off a READ of port A copies the pins into the latch. -/
def State.loadInputLatchA (s : State) : State := if paLatch s.acr then s else { s with ila := s.paIn }

/-- 10_state.md R23: the same for port B. -/
def State.loadInputLatchB (s : State) : State := if pbLatch s.acr then s else { s with ilb := s.pbIn }

/-- `emit PORTA(ora, ddra)`. -/
def State.emitPortA (s : State) : State := s.emit (.portA s.ora s.ddra)

/-- `emit PORTB(orb, ddrb)`. -/
def State.emitPortB (s : State) : State := s.emit (.portB s.orb s.ddrb)

/-- 30_encoding.md R102: the pins are 0xFF, 0xFF where none are written. -/
def defaultPins : Pins := ⟨0xFF#8, 0xFF#8⟩

/-- The pins that come with the next operation (entry 2). -/
def State.nextPins (s : State) : Pins := s.pinFeed.headD defaultPins

/-- The state in which the next operation is performed: its bytes are taken from the stream and its pins stand
beside it. -/
def State.present (s : State) (rest : List Byte) : State :=
  { s with stream := rest, pinFeed := s.pinFeed.tail, paIn := s.nextPins.pa, pbIn := s.nextPins.pb }

/-- The refusal that a decoding error is (30_encoding.md R110, 60_exceptions.md R344; entry 10). -/
def refusalOf (e : DecodeError) : Refusal :=
  match e with
  | .noOperation => .noOperation
  | .invalidCommand cmd => .invalidCommand cmd
  | .truncated cmd => .truncatedOperation cmd

end Sys2Proof.Machine
end

