-- ==== Sys2Proof/Machine/Flags.lean ====
section
/-! DEFINITION. The interrupt-flag combinator (41_interrupt_flags.md R170 to R173): the seven sources, the combined
flag, and the three procedures through which every operation changes the flags. -/

namespace Sys2Proof.Machine

/-- 10_state.md R32: the seven sources of `ifr`. -/
inductive Source where
  | ca2 | ca1 | sr | cb2 | cb1 | t2 | t1
deriving DecidableEq, Repr

/-- 10_state.md R32: the bit number of each source. -/
def sourceBit (k : Source) : Nat :=
  match k with
  | .ca2 => 0
  | .ca1 => 1
  | .sr => 2
  | .cb2 => 3
  | .cb1 => 4
  | .t2 => 5
  | .t1 => 6

/-- The mask of one source. -/
def sourceMask (k : Source) : Byte := 1#8 <<< sourceBit k

/-- 10_state.md R33: `(ifr & ier & 0x7F) != 0`. -/
def combinedFlag (ifr ier : Byte) : Bool := (ifr &&& ier &&& 0x7F#8) != 0#8

/-- `ifr[7]` rewritten with the combined flag, and nothing else (R171). -/
def recomputed (ifr ier : Byte) : Byte := withBit ifr 7 (combinedFlag ifr ier)

/-- R171: `irq_update()`, emitting `IRQ` every time it runs. -/
def State.irqUpdate (s : State) : State :=
  { s with ifr := recomputed s.ifr s.ier, events := s.events ++ [.irq (combinedFlag s.ifr s.ier)] }

/-- R172: `ifr_set(k)`. -/
def State.ifrSet (s : State) (k : Source) : State :=
  State.irqUpdate { s with ifr := withBit s.ifr (sourceBit k) true }

/-- R173: `ifr_clear(m)`; bit 7 of `m` is ignored. -/
def State.ifrClear (s : State) (m : Byte) : State :=
  State.irqUpdate { s with ifr := s.ifr &&& ~~~(m &&& 0x7F#8) }

/-- 42_handshake.md R201: `CLEAR_MASK_A`. -/
def clearMaskA (pcr : Byte) : Byte := 0x02#8 ||| (if modeIndependent (ca2Mode pcr) then 0x00#8 else 0x01#8)

/-- 42_handshake.md R201: `CLEAR_MASK_B`. -/
def clearMaskB (pcr : Byte) : Byte := 0x10#8 ||| (if modeIndependent (cb2Mode pcr) then 0x00#8 else 0x08#8)

end Sys2Proof.Machine
end

