-- ==== Sys2Proof/Machine/Shift.lean ====
section
/-! DEFINITION. The shift register: restart, one serial bit, and the clock sources (43_shift.md R220 to R228). -/

namespace Sys2Proof.Machine

/-- 43_shift.md R31, R224: the bit count at which the shifter is halted. -/
abbrev shiftsPerByte : Nat := 8

/-- R221: `SR_RESTART`. -/
def State.srRestart (s : State) : State := { s with srCount := 0, srPhase := false }

/-- R228: halt the shifter, without touching `sr`, `cb2` or `ifr`. -/
def State.srHalt (s : State) : State := { s with srCount := shiftsPerByte, srPhase := false }

/-- R222: shift toward bit 7 with `b` entering at bit 0. -/
def shiftLeftIn (sr : Byte) (b : Bool) : Byte := (sr <<< 1) ||| bitAt 0 b

/-- R222: the serial-bit part of `SHIFT_STEP`. Out: bit 7 goes to CB2 and back into bit 0; in: CB2 goes into bit 0. -/
def State.shiftBit (s : State) : State :=
  if srOut s.acr then
    State.emit { s with cb2 := s.sr.getLsbD 7, sr := shiftLeftIn s.sr (s.sr.getLsbD 7) } (.cb2 (s.sr.getLsbD 7))
  else { s with sr := shiftLeftIn s.sr s.cb2 }

/-- R222: the bit-count part of `SHIFT_STEP`; the eighth shift sets `ifr[2]` (R223). -/
def State.countShift (s : State) : State :=
  if s.srCount + 1 = shiftsPerByte then State.ifrSet { s with srCount := s.srCount + 1 } .sr
  else { s with srCount := s.srCount + 1 }

/-- R222: `SHIFT_STEP`, one clock edge of the selected source. -/
def State.shiftStep (s : State) : State := s.shiftBit.countShift

/-- R225: `TICK_SR`, source 2, every second cycle. -/
def State.tickSr (s : State) : State :=
  if srSource s.acr = sourceCycle ∧ s.srCount < shiftsPerByte then
    if s.srPhase then State.shiftStep { s with srPhase := false } else { s with srPhase := true }
  else s

/-- R226: the shifter's part of a Timer 2 underflow action, source 1. -/
def State.srTimer2Edge (s : State) : State :=
  if srSource s.acr = sourceTimer2 ∧ s.srCount < shiftsPerByte then s.shiftStep else s

/-- R227: `SR_EXT_EDGE(level)`, source 3: rising edges shift in, falling edges shift out. -/
def State.srExtEdge (s : State) (level : Bool) : State :=
  if srSource s.acr = sourceExternal ∧ s.srCount < shiftsPerByte ∧ level = !srOut s.acr then s.shiftStep else s

end Sys2Proof.Machine
end

