-- ==== Sys2Proof/Machine/Handshake.lean ====
section
/-! DEFINITION. The handshake lines (42_handshake.md): level derivation on a PCR store, handshake and pulse output on
a port access, and the EDGE operations on CA1, CA2, CB1 and CB2. -/

namespace Sys2Proof.Machine

/-- R196: `LINE_IDLE(mode)`, the level a secondary line takes when it enters a mode. -/
def lineIdle (mode : BitVec 3) : Bool := mode != modeLow

/-- R197: `PCR_REDERIVE`, the CA2 half. -/
def State.rederiveA (old new : Byte) (s : State) : State :=
  if ca2Mode old = ca2Mode new then s
  else State.emit { s with ca2 := lineIdle (ca2Mode new) } (.ca2 (lineIdle (ca2Mode new)))

/-- R197: `PCR_REDERIVE`, the CB2 half. -/
def State.rederiveB (old new : Byte) (s : State) : State :=
  if cb2Mode old = cb2Mode new then s
  else State.emit { s with cb2 := lineIdle (cb2Mode new) } (.cb2 (lineIdle (cb2Mode new)))

/-- R198 to R200: the levels a secondary line takes, in order, on a port access. -/
def accessLevels (mode : BitVec 3) (level : Bool) : List Bool :=
  if mode = modeHandshake then [!level]
  else if mode = modePulse then [false, true]
  else []

/-- R200: `HS_ACCESS_A`; one event for each level, and the last one stays. -/
def State.hsAccessA (s : State) : State :=
  { s with
    ca2 := (accessLevels (ca2Mode s.pcr) s.ca2).getLastD s.ca2
    events := s.events ++ (accessLevels (ca2Mode s.pcr) s.ca2).map .ca2 }

/-- R200: `HS_ACCESS_B`. -/
def State.hsAccessB (s : State) : State :=
  { s with
    cb2 := (accessLevels (cb2Mode s.pcr) s.cb2).getLastD s.cb2
    events := s.events ++ (accessLevels (cb2Mode s.pcr) s.cb2).map .cb2 }

/-- R192: EDGE CA1; an active edge sets `ifr[1]` and, with latching on, loads `ila`. -/
def State.edgeCa1 (level : Bool) (s : State) : State :=
  if level = ca1Pol s.pcr then
    State.irqUpdate
      { s with
        ifr := withBit s.ifr (sourceBit .ca1) true
        ila := if paLatch s.acr then s.paIn else s.ila }
  else s.irqUpdate

/-- R193: EDGE CA2; ignored when the line is an output. No `CA2` event (R193, R62), against 10_state.md R63's sentence on
the last event (DEDUCED, entry 11). -/
def State.edgeCa2 (level : Bool) (s : State) : State :=
  if modeIsInput (ca2Mode s.pcr) then
    State.irqUpdate
      { s with
        ca2 := level
        ifr := if level = modeRising (ca2Mode s.pcr) then withBit s.ifr (sourceBit .ca2) true else s.ifr }
  else s

/-- R194: EDGE CB1; the flag and the external shift clock are independent uses of the edge. -/
def State.edgeCb1 (level : Bool) (s : State) : State :=
  if level = cb1Pol s.pcr then
    State.srExtEdge
      (State.irqUpdate
        { s with
          ifr := withBit s.ifr (sourceBit .cb1) true
          ilb := if pbLatch s.acr then s.pbIn else s.ilb })
      level
  else s.irqUpdate.srExtEdge level

/-- R195: EDGE CB2; ignored when the line is an output. No `CB2` event (70_reset_and_hazards.md R381). -/
def State.edgeCb2 (level : Bool) (s : State) : State :=
  if modeIsInput (cb2Mode s.pcr) then
    State.irqUpdate
      { s with
        cb2 := level
        ifr := if level = modeRising (cb2Mode s.pcr) then withBit s.ifr (sourceBit .cb2) true else s.ifr }
  else s

/-- R192: EDGE CA1, 0. -/
def execEdgeCa1Fall (s : State) : Host.Outcome State Fault Refusal := .next (s.begin.edgeCa1 false)

/-- R192: EDGE CA1, 1. -/
def execEdgeCa1Rise (s : State) : Host.Outcome State Fault Refusal := .next (s.begin.edgeCa1 true)

/-- R193: EDGE CA2, 0. -/
def execEdgeCa2Fall (s : State) : Host.Outcome State Fault Refusal := .next (s.begin.edgeCa2 false)

/-- R193: EDGE CA2, 1. -/
def execEdgeCa2Rise (s : State) : Host.Outcome State Fault Refusal := .next (s.begin.edgeCa2 true)

/-- R194: EDGE CB1, 0. -/
def execEdgeCb1Fall (s : State) : Host.Outcome State Fault Refusal := .next (s.begin.edgeCb1 false)

/-- R194: EDGE CB1, 1. -/
def execEdgeCb1Rise (s : State) : Host.Outcome State Fault Refusal := .next (s.begin.edgeCb1 true)

/-- R195: EDGE CB2, 0. -/
def execEdgeCb2Fall (s : State) : Host.Outcome State Fault Refusal := .next (s.begin.edgeCb2 false)

/-- R195: EDGE CB2, 1. -/
def execEdgeCb2Rise (s : State) : Host.Outcome State Fault Refusal := .next (s.begin.edgeCb2 true)

end Sys2Proof.Machine
end

