-- ==== Sys2Proof/Machine/Peeks.lean ====
section
/-! DEFINITION. The sixteen PEEK operations (45_bus_read_peek.md R286 to R301): the byte the READ of the same address
would return, no field of the block changed, no event (20_memory.md R87). -/

namespace Sys2Proof.Machine

/-- R286: `PK ORB`. -/
def execPkOrb (s : State) : Host.Outcome State Fault Refusal := .next (s.begin.returnByte s.portBValue)

/-- R287: `PK ORA`. -/
def execPkOra (s : State) : Host.Outcome State Fault Refusal := .next (s.begin.returnByte s.portAValue)

/-- R288: `PK DDRB`. -/
def execPkDdrb (s : State) : Host.Outcome State Fault Refusal := .next (s.begin.returnByte s.ddrb)

/-- R289: `PK DDRA`. -/
def execPkDdra (s : State) : Host.Outcome State Fault Refusal := .next (s.begin.returnByte s.ddra)

/-- R290: `PK T1CL`. -/
def execPkT1cl (s : State) : Host.Outcome State Fault Refusal := .next (s.begin.returnByte (lowByte s.t1c))

/-- R291: `PK T1CH`. -/
def execPkT1ch (s : State) : Host.Outcome State Fault Refusal := .next (s.begin.returnByte (highByte s.t1c))

/-- R292: `PK T1LL`. -/
def execPkT1ll (s : State) : Host.Outcome State Fault Refusal := .next (s.begin.returnByte s.t1ll)

/-- R293: `PK T1LH`. -/
def execPkT1lh (s : State) : Host.Outcome State Fault Refusal := .next (s.begin.returnByte s.t1lh)

/-- R294: `PK T2CL`. -/
def execPkT2cl (s : State) : Host.Outcome State Fault Refusal := .next (s.begin.returnByte (lowByte s.t2c))

/-- R295: `PK T2CH`. -/
def execPkT2ch (s : State) : Host.Outcome State Fault Refusal := .next (s.begin.returnByte (highByte s.t2c))

/-- R296: `PK SR`. -/
def execPkSr (s : State) : Host.Outcome State Fault Refusal := .next (s.begin.returnByte s.sr)

/-- R297: `PK ACR`. -/
def execPkAcr (s : State) : Host.Outcome State Fault Refusal := .next (s.begin.returnByte s.acr)

/-- R298: `PK PCR`. -/
def execPkPcr (s : State) : Host.Outcome State Fault Refusal := .next (s.begin.returnByte s.pcr)

/-- R299: `PK IFR`. -/
def execPkIfr (s : State) : Host.Outcome State Fault Refusal := .next (s.begin.returnByte s.ifr)

/-- R300: `PK IER`. -/
def execPkIer (s : State) : Host.Outcome State Fault Refusal := .next (s.begin.returnByte s.ier)

/-- R301: `PK ORAX`. -/
def execPkOrax (s : State) : Host.Outcome State Fault Refusal := .next (s.begin.returnByte s.portAValue)

end Sys2Proof.Machine
end

