-- ==== Sys2Proof/Machine/Reads.lean ====
section
/-! DEFINITION. The sixteen READ operations (45_bus_read_peek.md R269 to R285). The result is computed first, from the
state before the operation and the pins; then latch, flags, handshake or shift restart (R269). -/

namespace Sys2Proof.Machine

/-- R270: `RD ORB`, a port access of pair B. -/
def execRdOrb (s : State) : Host.Outcome State Fault Refusal :=
  .next (((s.begin.returnByte s.portBValue).loadInputLatchB.ifrClear (clearMaskB s.pcr)).hsAccessB)

/-- R271: `RD ORA`, a port access of pair A. -/
def execRdOra (s : State) : Host.Outcome State Fault Refusal :=
  .next (((s.begin.returnByte s.portAValue).loadInputLatchA.ifrClear (clearMaskA s.pcr)).hsAccessA)

/-- R272: `RD DDRB`. -/
def execRdDdrb (s : State) : Host.Outcome State Fault Refusal :=
  .next (s.begin.returnByte s.ddrb)

/-- R273: `RD DDRA`. -/
def execRdDdra (s : State) : Host.Outcome State Fault Refusal :=
  .next (s.begin.returnByte s.ddra)

/-- R274: `RD T1CL`, the live counter byte; clears `ifr[6]`. -/
def execRdT1cl (s : State) : Host.Outcome State Fault Refusal :=
  .next ((s.begin.returnByte (lowByte s.t1c)).ifrClear (sourceMask .t1))

/-- R275: `RD T1CH`. -/
def execRdT1ch (s : State) : Host.Outcome State Fault Refusal :=
  .next (s.begin.returnByte (highByte s.t1c))

/-- R276: `RD T1LL`. -/
def execRdT1ll (s : State) : Host.Outcome State Fault Refusal :=
  .next (s.begin.returnByte s.t1ll)

/-- R277: `RD T1LH`. -/
def execRdT1lh (s : State) : Host.Outcome State Fault Refusal :=
  .next (s.begin.returnByte s.t1lh)

/-- R278: `RD T2CL`, the live counter byte; clears `ifr[5]`. -/
def execRdT2cl (s : State) : Host.Outcome State Fault Refusal :=
  .next ((s.begin.returnByte (lowByte s.t2c)).ifrClear (sourceMask .t2))

/-- R279: `RD T2CH`. -/
def execRdT2ch (s : State) : Host.Outcome State Fault Refusal :=
  .next (s.begin.returnByte (highByte s.t2c))

/-- R280: `RD SR`; clears `ifr[2]` and restarts the shifter. -/
def execRdSr (s : State) : Host.Outcome State Fault Refusal :=
  .next (((s.begin.returnByte s.sr).ifrClear (sourceMask .sr)).srRestart)

/-- R281: `RD ACR`. -/
def execRdAcr (s : State) : Host.Outcome State Fault Refusal :=
  .next (s.begin.returnByte s.acr)

/-- R282: `RD PCR`. -/
def execRdPcr (s : State) : Host.Outcome State Fault Refusal :=
  .next (s.begin.returnByte s.pcr)

/-- R283: `RD IFR`, all eight bits; clears nothing. -/
def execRdIfr (s : State) : Host.Outcome State Fault Refusal :=
  .next (s.begin.returnByte s.ifr)

/-- R284: `RD IER`. -/
def execRdIer (s : State) : Host.Outcome State Fault Refusal :=
  .next (s.begin.returnByte s.ier)

/-- R285: `RD ORAX`; no port access, only the transparent latch. -/
def execRdOrax (s : State) : Host.Outcome State Fault Refusal :=
  .next ((s.begin.returnByte s.portAValue).loadInputLatchA)

end Sys2Proof.Machine
end

