-- ==== Sys2Proof/Machine/Stores.lean ====
section
/-! DEFINITION. The sixteen STORE operations (44_bus_store.md). Each follows R239's order: write the register, emit
the store event, change the flags, then the side effects. -/

namespace Sys2Proof.Machine

/-- R240: `ST ORB, v`, a port access of pair B. -/
def execStOrb (v : Byte) (s : State) : Host.Outcome State Fault Refusal :=
  .next (State.hsAccessB (State.ifrClear (State.emitPortB { s.begin with orb := v }) (clearMaskB s.pcr)))

/-- R241: `ST ORA, v`, a port access of pair A. -/
def execStOra (v : Byte) (s : State) : Host.Outcome State Fault Refusal :=
  .next (State.hsAccessA (State.ifrClear (State.emitPortA { s.begin with ora := v }) (clearMaskA s.pcr)))

/-- R242: `ST DDRB, v`. -/
def execStDdrb (v : Byte) (s : State) : Host.Outcome State Fault Refusal :=
  .next (State.emitPortB { s.begin with ddrb := v })

/-- R243: `ST DDRA, v`. -/
def execStDdra (v : Byte) (s : State) : Host.Outcome State Fault Refusal :=
  .next (State.emitPortA { s.begin with ddra := v })

/-- R244: `ST T1CL, v`; only the low latch byte is written. -/
def execStT1cl (v : Byte) (s : State) : Host.Outcome State Fault Refusal :=
  .next { s.begin with t1ll := v }

/-- R245: `ST T1CH, v`: latch high, load the counter, cancel a pending action, start, clear the flag. -/
def execStT1ch (v : Byte) (s : State) : Host.Outcome State Fault Refusal :=
  .next (State.ifrClear
    { s.begin with t1lh := v, t1c := joinBytes v s.t1ll, t1Pend := 0, t1Fired := false, t1Run := true }
    (sourceMask .t1))

/-- R246: `ST T1LL, v`. -/
def execStT1ll (v : Byte) (s : State) : Host.Outcome State Fault Refusal :=
  .next { s.begin with t1ll := v }

/-- R247: `ST T1LH, v`: latch high and clear the flag, without loading the counter. -/
def execStT1lh (v : Byte) (s : State) : Host.Outcome State Fault Refusal :=
  .next (State.ifrClear { s.begin with t1lh := v } (sourceMask .t1))

/-- R248: `ST T2CL, v`; only the latch is written. -/
def execStT2cl (v : Byte) (s : State) : Host.Outcome State Fault Refusal :=
  .next (State.emit { s.begin with t2ll := v } (.t2l v))

/-- R249: `ST T2CH, v`: load the counter from the bus and the latch, cancel, start, clear the flag. -/
def execStT2ch (v : Byte) (s : State) : Host.Outcome State Fault Refusal :=
  .next (State.ifrClear { s.begin with t2c := joinBytes v s.t2ll, t2Pend := 0, t2Run := true } (sourceMask .t2))

/-- R250: `ST SR, v`. -/
def execStSr (v : Byte) (s : State) : Host.Outcome State Fault Refusal :=
  .next (State.srRestart (State.ifrClear (State.emit { s.begin with sr := v } (.sr v)) (sourceMask .sr)))

/-- R251: a store that changes `acr[4:2]` halts the shifter. -/
def State.acrShiftChange (old new : Byte) (s : State) : State := if srMode old = srMode new then s else s.srHalt

/-- R251: a store that changes `acr[5]` cancels a pending Timer 2 action (40_timers.md R143). -/
def State.acrTimer2Change (old new : Byte) (s : State) : State :=
  if t2Pulse old = t2Pulse new then s else { s with t2Pend := 0 }

/-- R251: `ST ACR, v`. -/
def execStAcr (v : Byte) (s : State) : Host.Outcome State Fault Refusal :=
  .next (State.acrTimer2Change s.acr v (State.acrShiftChange s.acr v (State.emit { s.begin with acr := v } (.acr v))))

/-- R252: `ST PCR, v`. -/
def execStPcr (v : Byte) (s : State) : Host.Outcome State Fault Refusal :=
  .next (State.rederiveB s.pcr v (State.rederiveA s.pcr v (State.emit { s.begin with pcr := v } (.pcr v))))

/-- R253: `ST IFR, v`: clear the flags where `v` has a 1. -/
def execStIfr (v : Byte) (s : State) : Host.Outcome State Fault Refusal := .next (s.begin.ifrClear v)

/-- R254: the new enables; bit 7 of `v` selects set or clear. -/
def enablesAfter (ier v : Byte) : Byte := if v.getLsbD 7 then ier ||| (v &&& 0x7F#8) else ier &&& ~~~(v &&& 0x7F#8)

/-- R254: `ST IER, v`. -/
def execStIer (v : Byte) (s : State) : Host.Outcome State Fault Refusal :=
  .next (State.irqUpdate { s.begin with ier := enablesAfter s.ier v })

/-- R255: `ST ORAX, v`: no port access, no flag clear, no handshake. -/
def execStOrax (v : Byte) (s : State) : Host.Outcome State Fault Refusal :=
  .next (State.emitPortA { s.begin with ora := v })

end Sys2Proof.Machine
end

