-- ==== Sys2Proof/Machine/System.lean ====
section
/-! DEFINITION. RESET, INIT and the snapshot operations (46_system_snapshot.md). -/

namespace Sys2Proof.Machine

/-- R320: the fields RESET leaves unspecified, drawn anew at each RESET (10_state.md R67, D33; entry 4). -/
def State.drawAtReset (s : State) : State :=
  { s with
    t1c := Config.freeHalf s.draws
    t1ll := Config.freeByte (s.draws + 1)
    t1lh := Config.freeByte (s.draws + 2)
    t2c := Config.freeHalf (s.draws + 3)
    t2ll := Config.freeByte (s.draws + 4)
    ila := Config.freeByte (s.draws + 5)
    ilb := Config.freeByte (s.draws + 6)
    draws := s.draws + 7 }

/-- R320: the fields RESET forces. -/
def State.forceDefaults (s : State) : State :=
  { s with
    ddra := 0x00#8
    ddrb := 0x00#8
    ifr := 0x00#8
    ier := 0x00#8
    pcr := 0x00#8
    acr := 0x00#8
    sr := 0x00#8
    t1Run := false
    t2Run := false
    t1Pend := 0
    t2Pend := 0
    t1Fired := false
    ora := 0x00#8
    orb := 0x00#8
    ca2 := true
    cb2 := true
    t1Out := true
    srCount := 8
    srPhase := false }

/-- R320: RESET. -/
def execReset (s : State) : Host.Outcome State Fault Refusal :=
  .next ((s.begin.forceDefaults.drawAtReset.irqUpdate).emit .adapterReset)

/-- R321: every field but the six that INIT fixes takes any value of its type (entry 4). -/
def State.drawAtInit (s : State) : State :=
  { s with
    orb := Config.freeByte s.draws
    ora := Config.freeByte (s.draws + 1)
    ddrb := Config.freeByte (s.draws + 2)
    ddra := Config.freeByte (s.draws + 3)
    t1c := Config.freeHalf (s.draws + 4)
    t1ll := Config.freeByte (s.draws + 5)
    t1lh := Config.freeByte (s.draws + 6)
    t2c := Config.freeHalf (s.draws + 7)
    t2ll := Config.freeByte (s.draws + 8)
    sr := Config.freeByte (s.draws + 9)
    acr := Config.freeByte (s.draws + 10)
    pcr := Config.freeByte (s.draws + 11)
    ifr := Config.freeByte (s.draws + 12)
    ier := Config.freeByte (s.draws + 13)
    ila := Config.freeByte (s.draws + 14)
    ilb := Config.freeByte (s.draws + 15)
    t1Fired := Config.freeBit (s.draws + 16)
    t1Out := Config.freeBit (s.draws + 17)
    ca2 := Config.freeBit (s.draws + 18)
    cb2 := Config.freeBit (s.draws + 19)
    draws := s.draws + 20 }

/-- R321: "all alarms initially disabled": both timers stopped, nothing pending, the shifter halted (D35). -/
def State.disableAll (s : State) : State :=
  { s with t1Run := false, t2Run := false, t1Pend := 0, t2Pend := 0, srCount := 8, srPhase := false }

/-- R321: INIT. -/
def execInit (s : State) : Host.Outcome State Fault Refusal := .next s.begin.disableAll.drawAtInit

/-! ### The snapshot -/

/-- R324: byte 18. -/
def State.flagsA (s : State) : Byte :=
  bitAt 0 s.t1Run ||| bitAt 1 s.t1Fired ||| bitAt 2 s.t2Run ||| bitAt 3 (t2Pulse s.acr) ||| bitAt 4 s.ca2 |||
    bitAt 5 s.cb2

/-- R324: byte 19; the count takes bits 3:0. -/
def State.flagsB (s : State) : Byte :=
  (BitVec.ofNat 8 s.srCount &&& 0x0F#8) ||| bitAt 4 s.srPhase ||| bitAt 5 s.t1Out

/-- R323: the 22 bytes, byte 0 first. -/
def State.snapshotBytes (s : State) : List Byte :=
  [s.ora, s.orb, s.ddra, s.ddrb, lowByte s.t1c, highByte s.t1c, s.t1ll, s.t1lh, lowByte s.t2c, highByte s.t2c, s.t2ll,
    s.sr, s.acr, s.pcr, s.ifr, s.ier, s.ila, s.ilb, s.flagsA, s.flagsB, BitVec.ofNat 8 s.t1Pend,
    BitVec.ofNat 8 s.t2Pend]

/-- R322: SNAPW; no field of the block changes, no event. -/
def execSnapw (s : State) : Host.Outcome State Fault Refusal :=
  .next { s.begin with result := .snapshot s.snapshotBytes }

/-- `b[k]` of a payload. -/
def payloadByte (b : List Byte) (k : Nat) : Byte := b.getD k 0#8

/-- R325: `SNAP_VALID(b)`, conditions (a) to (h), for latencies L1 and L2. -/
def snapValid (l1 l2 : Nat) (b : List Byte) : Bool :=
  b.length == snapshotLength
    && (payloadByte b 18 >>> 6 == 0#8 && payloadByte b 19 >>> 6 == 0#8)
    && decide ((payloadByte b 19 &&& 0x0F#8).toNat ≤ 8)
    && ((payloadByte b 18).getLsbD 3 == (payloadByte b 12).getLsbD 5)
    && (decide ((payloadByte b 20).toNat ≤ l1 - 1) && decide ((payloadByte b 21).toNat ≤ l2 - 1))
    && (payloadByte b 20 == 0#8 || (payloadByte b 18).getLsbD 0)
    && (payloadByte b 21 == 0#8 || ((payloadByte b 18).getLsbD 2 && !(payloadByte b 12).getLsbD 5))
    && (!(payloadByte b 18).getLsbD 1 || !(payloadByte b 18).getLsbD 0)

/-- R326: the 26 fields taken from a payload; bit 7 of the IFR and IER bytes is ignored and `ifr[7]` recomputed. -/
def State.restore (b : List Byte) (s : State) : State :=
  { s with
    ora := payloadByte b 0
    orb := payloadByte b 1
    ddra := payloadByte b 2
    ddrb := payloadByte b 3
    t1c := joinBytes (payloadByte b 5) (payloadByte b 4)
    t1ll := payloadByte b 6
    t1lh := payloadByte b 7
    t2c := joinBytes (payloadByte b 9) (payloadByte b 8)
    t2ll := payloadByte b 10
    sr := payloadByte b 11
    acr := payloadByte b 12
    pcr := payloadByte b 13
    ifr := recomputed (payloadByte b 14 &&& 0x7F#8) (payloadByte b 15 &&& 0x7F#8)
    ier := payloadByte b 15 &&& 0x7F#8
    ila := payloadByte b 16
    ilb := payloadByte b 17
    t1Run := (payloadByte b 18).getLsbD 0
    t1Fired := (payloadByte b 18).getLsbD 1
    t2Run := (payloadByte b 18).getLsbD 2
    ca2 := (payloadByte b 18).getLsbD 4
    cb2 := (payloadByte b 18).getLsbD 5
    srCount := (payloadByte b 19 &&& 0x0F#8).toNat
    srPhase := (payloadByte b 19).getLsbD 4
    t1Out := (payloadByte b 19).getLsbD 5
    t1Pend := (payloadByte b 20).toNat
    t2Pend := (payloadByte b 21).toNat }

/-- R326: the five events of a successful restore, in order. -/
def State.emitUndump (s : State) : State :=
  ((((s.emit (.undumpPortA s.ora s.ddra)).emit (.undumpPortB s.orb s.ddrb)).emit (.undumpPcr s.pcr)).emit
    (.undumpAcr s.acr)).emit (.irqRestore s.irqOut)

/-- R326: SNAPR for latencies L1 and L2; the whole payload is checked before any field is written. -/
def State.snapshotRead (l1 l2 : Nat) (b : List Byte) (s : State) : State :=
  if snapValid l1 l2 b then (s.begin.restore b).emitUndump.returnOk else s.formatError

/-- R326: SNAPR. -/
def execSnapr (payload : List Byte) (s : State) : Host.Outcome State Fault Refusal :=
  .next (s.snapshotRead Config.t1Latency Config.t2Latency payload)

end Sys2Proof.Machine
end

