-- ==== Sys2Proof/Machine/Timers.lean ====
section
/-! DEFINITION. Timer 1 and Timer 2 (40_timers.md): the underflow actions, the timers' parts of TICK, and the
operations TICK and EDGE PB6. The procedures take the latencies L1 and L2 (00_scope.md R8) as arguments; the
meanings give them the constants of Config. -/

namespace Sys2Proof.Machine

/-- R134: the reload and the optional toggle of a continuous-mode underflow. -/
def State.t1Reload (s : State) : State :=
  if t1Toggle s.acr then
    State.emit { s with t1c := joinBytes s.t1lh s.t1ll, t1Out := !s.t1Out } (.t1out !s.t1Out)
  else { s with t1c := joinBytes s.t1lh s.t1ll }

/-- R134: the stop of a one-shot underflow. -/
def State.t1Stop (s : State) : State := { s with t1Run := false, t1Fired := true }

/-- R134: `T1_ACTION`; the mode is read now, not at load time. -/
def State.t1Action (s : State) : State :=
  if t1Cont s.acr then (s.ifrSet .t1).t1Reload else (s.ifrSet .t1).t1Stop

/-- R132: `TICK_T1`. -/
def State.tickT1 (l1 : Nat) (s : State) : State :=
  if s.t1Run then
    if 0 < s.t1Pend then
      if s.t1Pend = 1 then State.t1Action { s with t1c := s.t1c - 1#16, t1Pend := 0 }
      else { s with t1c := s.t1c - 1#16, t1Pend := s.t1Pend - 1 }
    else if s.t1c = 0#16 then
      if l1 = 1 then State.t1Action { s with t1c := s.t1c - 1#16 }
      else { s with t1c := s.t1c - 1#16, t1Pend := l1 - 1 }
    else { s with t1c := s.t1c - 1#16 }
  else s

/-- R138: `T2_ACTION`. -/
def State.t2Action (s : State) : State :=
  State.srTimer2Edge (State.ifrSet { s with t2Run := false, t2Pend := 0 } .t2)

/-- R137: `TICK_T2`; it counts cycles only in timed mode. -/
def State.tickT2 (l2 : Nat) (s : State) : State :=
  if s.t2Run && !t2Pulse s.acr then
    if 0 < s.t2Pend then
      if s.t2Pend = 1 then State.t2Action { s with t2c := s.t2c - 1#16, t2Pend := 0 }
      else { s with t2c := s.t2c - 1#16, t2Pend := s.t2Pend - 1 }
    else if s.t2c = 0#16 then
      if l2 = 1 then State.t2Action { s with t2c := s.t2c - 1#16 }
      else { s with t2c := s.t2c - 1#16, t2Pend := l2 - 1 }
    else { s with t2c := s.t2c - 1#16 }
  else s

/-- R130: TICK, Timer 1 then Timer 2 then the shifter. -/
def State.tick (l1 l2 : Nat) (s : State) : State := ((s.tickT1 l1).tickT2 l2).tickSr

/-- R140: EDGE PB6; a falling edge decrements a running Timer 2 in pulse-counting mode, with no latency. -/
def State.edgePb6 (level : Bool) (s : State) : State :=
  if !level && t2Pulse s.acr && s.t2Run then
    if s.t2c = 0#16 then State.t2Action { s with t2c := s.t2c - 1#16 }
    else { s with t2c := s.t2c - 1#16 }
  else s

/-- R130: the operation TICK. -/
def execTick (s : State) : Host.Outcome State Fault Refusal :=
  .next (s.begin.tick Config.t1Latency Config.t2Latency)

/-- R140: EDGE PB6, 0. -/
def execEdgePb6Fall (s : State) : Host.Outcome State Fault Refusal := .next (s.begin.edgePb6 false)

/-- R140: EDGE PB6, 1. -/
def execEdgePb6Rise (s : State) : Host.Outcome State Fault Refusal := .next (s.begin.edgePb6 true)

end Sys2Proof.Machine
end

