-- ==== Sys2Proof/Machine/Dispatch.lean ====
section
/-! DEFINITION. The dispatch: each operation of the opcode table to its own meaning. -/

namespace Sys2Proof.Machine

def exec (i : Instr) (s : State) : Host.Outcome State Fault Refusal :=
  match i with
  | .stOrb v => Sys2Proof.Machine.execStOrb v s
  | .stOra v => Sys2Proof.Machine.execStOra v s
  | .stDdrb v => Sys2Proof.Machine.execStDdrb v s
  | .stDdra v => Sys2Proof.Machine.execStDdra v s
  | .stT1cl v => Sys2Proof.Machine.execStT1cl v s
  | .stT1ch v => Sys2Proof.Machine.execStT1ch v s
  | .stT1ll v => Sys2Proof.Machine.execStT1ll v s
  | .stT1lh v => Sys2Proof.Machine.execStT1lh v s
  | .stT2cl v => Sys2Proof.Machine.execStT2cl v s
  | .stT2ch v => Sys2Proof.Machine.execStT2ch v s
  | .stSr v => Sys2Proof.Machine.execStSr v s
  | .stAcr v => Sys2Proof.Machine.execStAcr v s
  | .stPcr v => Sys2Proof.Machine.execStPcr v s
  | .stIfr v => Sys2Proof.Machine.execStIfr v s
  | .stIer v => Sys2Proof.Machine.execStIer v s
  | .stOrax v => Sys2Proof.Machine.execStOrax v s
  | .rdOrb => Sys2Proof.Machine.execRdOrb s
  | .rdOra => Sys2Proof.Machine.execRdOra s
  | .rdDdrb => Sys2Proof.Machine.execRdDdrb s
  | .rdDdra => Sys2Proof.Machine.execRdDdra s
  | .rdT1cl => Sys2Proof.Machine.execRdT1cl s
  | .rdT1ch => Sys2Proof.Machine.execRdT1ch s
  | .rdT1ll => Sys2Proof.Machine.execRdT1ll s
  | .rdT1lh => Sys2Proof.Machine.execRdT1lh s
  | .rdT2cl => Sys2Proof.Machine.execRdT2cl s
  | .rdT2ch => Sys2Proof.Machine.execRdT2ch s
  | .rdSr => Sys2Proof.Machine.execRdSr s
  | .rdAcr => Sys2Proof.Machine.execRdAcr s
  | .rdPcr => Sys2Proof.Machine.execRdPcr s
  | .rdIfr => Sys2Proof.Machine.execRdIfr s
  | .rdIer => Sys2Proof.Machine.execRdIer s
  | .rdOrax => Sys2Proof.Machine.execRdOrax s
  | .pkOrb => Sys2Proof.Machine.execPkOrb s
  | .pkOra => Sys2Proof.Machine.execPkOra s
  | .pkDdrb => Sys2Proof.Machine.execPkDdrb s
  | .pkDdra => Sys2Proof.Machine.execPkDdra s
  | .pkT1cl => Sys2Proof.Machine.execPkT1cl s
  | .pkT1ch => Sys2Proof.Machine.execPkT1ch s
  | .pkT1ll => Sys2Proof.Machine.execPkT1ll s
  | .pkT1lh => Sys2Proof.Machine.execPkT1lh s
  | .pkT2cl => Sys2Proof.Machine.execPkT2cl s
  | .pkT2ch => Sys2Proof.Machine.execPkT2ch s
  | .pkSr => Sys2Proof.Machine.execPkSr s
  | .pkAcr => Sys2Proof.Machine.execPkAcr s
  | .pkPcr => Sys2Proof.Machine.execPkPcr s
  | .pkIfr => Sys2Proof.Machine.execPkIfr s
  | .pkIer => Sys2Proof.Machine.execPkIer s
  | .pkOrax => Sys2Proof.Machine.execPkOrax s
  | .tick => Sys2Proof.Machine.execTick s
  | .reset => Sys2Proof.Machine.execReset s
  | .init => Sys2Proof.Machine.execInit s
  | .snapw => Sys2Proof.Machine.execSnapw s
  | .snapr payload => Sys2Proof.Machine.execSnapr payload s
  | .edgeCa1Fall => Sys2Proof.Machine.execEdgeCa1Fall s
  | .edgeCa1Rise => Sys2Proof.Machine.execEdgeCa1Rise s
  | .edgeCa2Fall => Sys2Proof.Machine.execEdgeCa2Fall s
  | .edgeCa2Rise => Sys2Proof.Machine.execEdgeCa2Rise s
  | .edgeCb1Fall => Sys2Proof.Machine.execEdgeCb1Fall s
  | .edgeCb1Rise => Sys2Proof.Machine.execEdgeCb1Rise s
  | .edgeCb2Fall => Sys2Proof.Machine.execEdgeCb2Fall s
  | .edgeCb2Rise => Sys2Proof.Machine.execEdgeCb2Rise s
  | .edgePb6Fall => Sys2Proof.Machine.execEdgePb6Fall s
  | .edgePb6Rise => Sys2Proof.Machine.execEdgePb6Rise s

end Sys2Proof.Machine
end

