-- ==== Sys2Proof/Machine/Step.lean ====
section
/-! DEFINITION. One step: take the next operation from what the environment has presented, and perform it. -/

namespace Sys2Proof.Machine

/-- The next operation of the stream (30_encoding.md R101, R114) is performed with the pins beside it (R102); where the
stream holds no operation the step is refused by name (entries 1, 2 and 10). -/
def step (s : State) : Host.Outcome State Fault Refusal :=
  match decode s.stream with
  | .ok (i, rest) => exec i (s.present rest)
  | .error e => .refused (refusalOf e)

/-- The state with an opcode-table word laid over the first bytes of the stream, where `step` takes its next operation
from (entry 1). -/
def State.withFetchWord (s : State) (nbits w : Nat) : State :=
  { s with stream := tableBytes nbits w ++ s.stream.drop maxOperationLength }

end Sys2Proof.Machine
end

