-- ==== Sys2Proof/Safety.lean ====
section
/-! DEFINITION. The terms the statements use: what counts as a legal state (10_state.md R33, R41) and as a safe step,
sequences of operations, and the spec's words about flags, lines and serial bits written a second time, without the
model's procedures, so that a statement compares two texts. -/

namespace Sys2Proof.Safety

open Sys2Proof.Machine

/-! ### Legal states -/

/-- 10_state.md R41 (c) to (f): what the state machines of the timers and the shifter keep in every state, also after
INIT. -/
structure SequencersLegal (s : State) : Prop where
  /-- R41 (c). -/
  srCount_le : s.srCount ≤ 8
  /-- R41 (d). -/
  t1Pend_le : s.t1Pend ≤ Config.t1Latency - 1
  /-- R41 (d). -/
  t1Pend_run : 0 < s.t1Pend → s.t1Run = true
  /-- R41 (e). -/
  t2Pend_le : s.t2Pend ≤ Config.t2Latency - 1
  /-- R41 (e). -/
  t2Pend_run : 0 < s.t2Pend → s.t2Run = true ∧ s.acr.getLsbD 5 = false
  /-- R41 (f). -/
  t1Fired_stopped : s.t1Fired = true → s.t1Run = false

/-- 10_state.md R41, all of it: what holds in every state reached after RESET or a successful SNAPR. -/
structure Legal (s : State) : Prop extends SequencersLegal s where
  /-- R41 (a), R33: "`ifr[7] == 1` if and only if `(ifr & ier & 0x7F) != 0`". -/
  combined : s.ifr.getLsbD 7 = true ↔ s.ifr &&& s.ier &&& 0x7F#8 ≠ 0#8
  /-- R41 (b). -/
  ier7 : s.ier.getLsbD 7 = false

/-! ### Safe steps and sequences of operations -/

/-- A safe step: the machine goes on. -/
def StepGoesOn (s : State) : Prop := ∃ t, step s = .next t

/-- The operations one after the other, stopping where one does not answer a next state. -/
def perform (ops : List Instr) (s : State) : Host.Outcome State Fault Refusal :=
  match ops with
  | [] => .next s
  | i :: rest =>
    match exec i s with
    | .next t => perform rest t
    | .fault r => .fault r
    | .refused r => .refused r

/-- `n` cycles of the clock (30_encoding.md R113). -/
def afterTicks (n : Nat) (s : State) : Host.Outcome State Fault Refusal := perform (pseudoTick n) s

/-- `n` falling edges on PB6. -/
def afterPulses (n : Nat) (s : State) : Host.Outcome State Fault Refusal :=
  perform (List.replicate n .edgePb6Fall) s

/-- A serial bit presented on CB2 and clocked in by a rising edge on CB1 (70_reset_and_hazards.md R382 (c)). -/
def clockIn (b : Bool) : List Instr := [if b then .edgeCb2Rise else .edgeCb2Fall, .edgeCb1Rise]

/-- The two states agree in every field of 10_state.md R20. -/
def SameBlock (s t : State) : Prop :=
  s.orb = t.orb ∧ s.ora = t.ora ∧ s.ddrb = t.ddrb ∧ s.ddra = t.ddra ∧ s.t1c = t.t1c ∧ s.t1ll = t.t1ll ∧
  s.t1lh = t.t1lh ∧ s.t2c = t.t2c ∧ s.t2ll = t.t2ll ∧ s.sr = t.sr ∧ s.acr = t.acr ∧ s.pcr = t.pcr ∧
  s.ifr = t.ifr ∧ s.ier = t.ier ∧ s.ila = t.ila ∧ s.ilb = t.ilb ∧ s.t1Run = t.t1Run ∧ s.t1Fired = t.t1Fired ∧
  s.t1Pend = t.t1Pend ∧ s.t1Out = t.t1Out ∧ s.t2Run = t.t2Run ∧ s.t2Pend = t.t2Pend ∧ s.srCount = t.srCount ∧
  s.srPhase = t.srPhase ∧ s.ca2 = t.ca2 ∧ s.cb2 = t.cb2

/-! ### Encodings -/

/-- The command byte and a data byte name the operation (30_encoding.md R105, format BUSW). -/
def StoreCommand (cmd : Byte) (op : Byte → Instr) : Prop :=
  ∀ (v : Byte) (rest : List Byte), decode (cmd :: v :: rest) = .ok (op v, rest)

/-- The command byte alone names the operation (30_encoding.md R106 to R109, formats BUSR and EVT). -/
def Command (cmd : Byte) (op : Instr) : Prop := ∀ rest : List Byte, decode (cmd :: rest) = .ok (op, rest)

/-- 30_encoding.md R110: the command bytes that name no operation. -/
def NamesNoOperation (cmd : Byte) : Prop :=
  (0x10 ≤ cmd.toNat ∧ cmd.toNat ≤ 0x3F) ∨ (0x50 ≤ cmd.toNat ∧ cmd.toNat ≤ 0x7F) ∨
  (0x90 ≤ cmd.toNat ∧ cmd.toNat ≤ 0xBF) ∨ (0xC5 ≤ cmd.toNat ∧ cmd.toNat ≤ 0xCF) ∨
  (0xDA ≤ cmd.toNat ∧ cmd.toNat ≤ 0xFF)

/-! ### Flags -/

/-- The level of the interrupt request for these flags and enables (60_exceptions.md R346). -/
def request (ifr ier : Byte) : Bool := (ifr &&& ier &&& 0x7F#8) != 0#8

/-- The flags with bit 7 as 10_state.md R33 has it. -/
def combine (ifr ier : Byte) : Byte := (ifr &&& 0x7F#8) ||| (if request ifr ier then 0x80#8 else 0x00#8)

/-- The level that an event reports for the interrupt output, if it reports one (41_interrupt_flags.md R174 (c)). -/
def irqReport (e : Event) : Option Bool :=
  match e with
  | .irq level => some level
  | .irqRestore level => some level
  | _ => none

/-- The levels reported for the interrupt output, in order. -/
def irqLevels (es : List Event) : List Bool := es.filterMap irqReport

/-- The levels reported for CA2, in order. -/
def ca2Levels (es : List Event) : List Bool :=
  es.filterMap fun e => match e with
    | .ca2 level => some level
    | _ => none

/-- The levels reported for CB2, in order. -/
def cb2Levels (es : List Event) : List Bool :=
  es.filterMap fun e => match e with
    | .cb2 level => some level
    | _ => none

/-- The levels reported for the Timer 1 output line, in order. -/
def t1OutLevels (es : List Event) : List Bool :=
  es.filterMap fun e => match e with
    | .t1out level => some level
    | _ => none

/-- 10_state.md R63, for one output and one operation: the last reported level is the output's level after it, and where
none is reported the output has not moved. -/
def LastReport (levels : List Bool) (before after : Bool) : Prop :=
  levels.getLast? = some after ∨ (levels = [] ∧ after = before)

/-! ### Fields of PCR and ACR, by their bits (10_state.md R35, R37) -/

/-- `pcr[3:1]`, as a number. -/
def modeA (s : State) : Nat := (s.pcr.toNat / 2) % 8

/-- `pcr[7:5]`, as a number. -/
def modeB (s : State) : Nat := s.pcr.toNat / 32

/-- `acr[3:2]`, as a number. -/
def shiftSource (s : State) : Nat := (s.acr.toNat / 4) % 4

/-- 42_handshake.md R200: the levels a port access drives on a secondary line, by its mode and its level before. -/
def drives (mode : Nat) (level : Bool) : List Bool :=
  if mode = 4 then [!level] else if mode = 5 then [false, true] else []

/-- 42_handshake.md R200: the level of the line after a port access. -/
def levelAfter (mode : Nat) (level : Bool) : Bool :=
  if mode = 4 then !level else if mode = 5 then true else level

/-- 42_handshake.md R201: the flags a port access keeps, for a pair whose flags are `primary` and `secondary`. -/
def keptByAccess (mode : Nat) (primary secondary : Byte) : Byte :=
  if mode = 1 ∨ mode = 3 then ~~~primary else ~~~(primary ||| secondary)

/-! ### Timers and shifter, by cases (40_timers.md R132 to R140, 43_shift.md R222 to R227) -/

/-- Timer 1's underflow action falls in the next TICK. -/
def timer1Due (s : State) : Bool :=
  s.t1Run && (s.t1Pend == 1 || (s.t1Pend == 0 && s.t1c == 0#16 && Config.t1Latency == 1))

/-- Timer 2 counts cycles: it runs, in timed mode. -/
def timer2Counts (s : State) : Bool := s.t2Run && !s.acr.getLsbD 5

/-- Timer 2's underflow action falls in the next TICK. -/
def timer2Due (s : State) : Bool :=
  timer2Counts s && (s.t2Pend == 1 || (s.t2Pend == 0 && s.t2c == 0#16 && Config.t2Latency == 1))

/-- The shifter is clocked by the next TICK: by a Timer 2 underflow in source 1, by the phase in source 2. -/
def shiftDue (s : State) : Bool :=
  decide (s.srCount < 8) && ((shiftSource s == 1 && timer2Due s) || (shiftSource s == 2 && s.srPhase))

/-- The bit that a shift moves into bit 0: the old bit 7 when shifting out, the level of CB2 when shifting in. -/
def serialBit (s : State) : Bool := if s.acr.getLsbD 4 then s.sr.getLsbD 7 else s.cb2

/-- The shift register after one shift. -/
def shifted (s : State) : Byte := (s.sr <<< 1) ||| (if serialBit s then 0x01#8 else 0x00#8)

/-- The events of one shift, where `ifr` are the flags before it: `CB2` when shifting out, `IRQ` on the eighth. -/
def shiftEvents (s : State) (ifr : Byte) : List Event :=
  (if s.acr.getLsbD 4 then [.cb2 (s.sr.getLsbD 7)] else []) ++
  (if s.srCount = 7 then [.irq (request (ifr ||| 0x04#8) s.ier)] else [])

/-- A mask where the condition holds, and no bit where it does not. -/
def onlyIf (c : Bool) (mask : Byte) : Byte := if c then mask else 0x00#8

/-- The flags that the next TICK sets (40_timers.md R130). -/
def tickSets (s : State) : Byte :=
  onlyIf (timer1Due s) 0x40#8 ||| onlyIf (timer2Due s) 0x20#8 ||| onlyIf (shiftDue s && s.srCount == 7) 0x04#8

/-- The events of the next TICK, Timer 1's, then Timer 2's, then the shifter's (40_timers.md R130, D31). -/
def tickEvents (s : State) : List Event :=
  (if timer1Due s then [.irq (request (s.ifr ||| 0x40#8) s.ier)] else []) ++
  (if timer1Due s && s.acr.getLsbD 6 && s.acr.getLsbD 7 then [.t1out (!s.t1Out)] else []) ++
  (if timer2Due s then [.irq (request (s.ifr ||| onlyIf (timer1Due s) 0x40#8 ||| 0x20#8) s.ier)] else []) ++
  (if shiftDue s then
    shiftEvents s (s.ifr ||| onlyIf (timer1Due s) 0x40#8 ||| onlyIf (timer2Due s) 0x20#8) else [])

/-! ### What the operations are, in groups -/

/-- The operations that sample `pa_in` (10_state.md R60). -/
def samplesPortA (i : Instr) : Bool :=
  i == .rdOra || i == .rdOrax || i == .pkOra || i == .pkOrax || i == .edgeCa1Fall || i == .edgeCa1Rise

/-- The operations that sample `pb_in` (10_state.md R60). -/
def samplesPortB (i : Instr) : Bool :=
  i == .rdOrb || i == .pkOrb || i == .edgeCb1Fall || i == .edgeCb1Rise

/-- The operation's command byte is one of these: a way to name operations whatever their operand bytes. -/
def commandIn (i : Instr) (cmds : List Byte) : Bool := cmds.contains (cmdOf i)

/-- An outcome with the same change made to its next state. -/
def mapNext (f : State → State) (o : Host.Outcome State Fault Refusal) : Host.Outcome State Fault Refusal :=
  match o with
  | .next t => .next (f t)
  | .fault r => .fault r
  | .refused r => .refused r

end Sys2Proof.Safety
end

