-- ==== Sys2Proof/Certificates/Slice0/Obligations.lean ====
section
/-! DEFINITION. The statements for the provers. Each is about the machine, none about a program. A docstring names the
rule of spec/ it formalises. Where the rule is an inference the spec marks as its own ("derived: from rules ...") or a
decision of the spec ("decision: see ... D<n>"), the docstring says so. -/

open Sys2Proof Sys2Proof.Machine Sys2Proof.Safety

/-! ### Decoding and the step -/

/-- The model's choice (entries 1 and 2), on 20_memory.md R88 and R92: where the stream holds an operation it is well
formed, and the step performs it in the state whose stream is the rest and beside which stand the pins presented with
it (0xFF where none are, 30_encoding.md R102). -/
def Obligations.StepPerformsTheDecodedOperation : Prop :=
  ∀ (s : State) (i : Instr) (rest : List Byte), decode s.stream = .ok (i, rest) →
    i.wellFormed = true ∧
    step s = exec i { s with
      stream := rest
      pinFeed := s.pinFeed.tail
      paIn := match s.pinFeed with | [] => 0xFF#8 | p :: _ => p.pa
      pbIn := match s.pinFeed with | [] => 0xFF#8 | p :: _ => p.pb }

/-- 30_encoding.md R110 and 60_exceptions.md R344 (decision D2): a command byte that names no operation is refused, and
only such a byte is; a command byte that names one is decoded as soon as its operand bytes are there. -/
def Obligations.CommandBytesThatNameNoOperationAreRefused : Prop :=
  ∀ (s : State) (cmd : Byte) (tail : List Byte), s.stream = cmd :: tail →
    (NamesNoOperation cmd → step s = .refused (.invalidCommand cmd)) ∧
    (¬ NamesNoOperation cmd → operationLength cmd ≤ tail.length + 1 →
      ∃ (i : Instr) (rest : List Byte), decode s.stream = .ok (i, rest) ∧ cmdOf i = cmd)

/-- 30_encoding.md R105 to R109, the words of 95_test_vectors.md E-1 to E-11 as they are written there. -/
def Obligations.WordsOfTheSpecDecode : Prop :=
  decode [0x00#8, 0xA5#8] = .ok (.stOrb 0xA5#8, []) ∧
  decode [0x05#8, 0x12#8] = .ok (.stT1ch 0x12#8, []) ∧
  decode [0x0F#8, 0x00#8] = .ok (.stOrax 0x00#8, []) ∧
  decode [0x4D#8] = .ok (.rdIfr, []) ∧
  decode [0x84#8] = .ok (.pkT1cl, []) ∧
  decode [0xC0#8] = .ok (.tick, []) ∧
  decode [0xC1#8] = .ok (.reset, []) ∧
  decode [0xC2#8] = .ok (.init, []) ∧
  decode [0xC3#8] = .ok (.snapw, []) ∧
  decode [0xD0#8] = .ok (.edgeCa1Fall, []) ∧
  decode [0xD7#8] = .ok (.edgeCb2Rise, []) ∧
  decode [0xD8#8] = .ok (.edgePb6Fall, [])

/-- 30_encoding.md R101 and R105 to R109 (decision D2): decoding the bytes of a well-formed operation gives it back,
with every operand, whatever bytes follow. -/
def Obligations.DecodeOfEncodeIsTheOperation : Prop :=
  ∀ (i : Instr) (rest : List Byte), i.wellFormed = true → decode (encode i ++ rest) = .ok (i, rest)

/-- 30_encoding.md R101 and R105 to R109 (decision D2): whatever decodes to an operation begins with the bytes of that
operation, and the operation is well formed. -/
def Obligations.EncodeOfDecodeIsTheBytes : Prop :=
  ∀ (bytes : List Byte) (i : Instr) (rest : List Byte), decode bytes = .ok (i, rest) →
    bytes = encode i ++ rest ∧ i.wellFormed = true

/-- 30_encoding.md R101, R111 (decision D2): "The length of an operation is decided by `cmd` alone: 2 bytes when
`cmd[7:6]` = 0, 23 bytes when `cmd` = 0xC4, 1 byte otherwise." -/
def Obligations.LengthIsDecidedByTheCommandByte : Prop :=
  ∀ (cmd : Byte) (tail rest : List Byte) (i : Instr), decode (cmd :: tail) = .ok (i, rest) →
    tail.length + 1 = rest.length +
      (if cmd.toNat < 0x40 then 2 else if cmd.toNat = 0xC4 then 23 else 1)

/-! ### STORE -/

/-- 44_bus_store.md R240, R241; the clear masks they name are those of 42_handshake.md R201 (decision D20). -/
def Obligations.PortStoresWriteLatchClearFlagsAndHandshake : Prop :=
  StoreCommand 0x00#8 .stOrb ∧ StoreCommand 0x01#8 .stOra ∧
  (∀ (v : Byte) (s : State), exec (.stOrb v) s = .next { s with
    orb := v
    ifr := combine (s.ifr &&& keptByAccess (modeB s) 0x10#8 0x08#8) s.ier
    cb2 := levelAfter (modeB s) s.cb2
    events := [.portB v s.ddrb, .irq (request (s.ifr &&& keptByAccess (modeB s) 0x10#8 0x08#8) s.ier)] ++
      (drives (modeB s) s.cb2).map .cb2
    result := .none }) ∧
  (∀ (v : Byte) (s : State), exec (.stOra v) s = .next { s with
    ora := v
    ifr := combine (s.ifr &&& keptByAccess (modeA s) 0x02#8 0x01#8) s.ier
    ca2 := levelAfter (modeA s) s.ca2
    events := [.portA v s.ddra, .irq (request (s.ifr &&& keptByAccess (modeA s) 0x02#8 0x01#8) s.ier)] ++
      (drives (modeA s) s.ca2).map .ca2
    result := .none })

/-- 44_bus_store.md R243, R244, R248: one register is written, no flag, and the event of R248 and R243 alone. -/
def Obligations.PlainStoresWriteOneRegister : Prop :=
  StoreCommand 0x03#8 .stDdra ∧ StoreCommand 0x04#8 .stT1cl ∧ StoreCommand 0x08#8 .stT2cl ∧
  (∀ (v : Byte) (s : State), exec (.stDdra v) s =
    .next { s with ddra := v, events := [.portA s.ora v], result := .none }) ∧
  (∀ (v : Byte) (s : State), exec (.stT1cl v) s = .next { s with t1ll := v, events := [], result := .none }) ∧
  (∀ (v : Byte) (s : State), exec (.stT2cl v) s = .next { s with t2ll := v, events := [.t2l v], result := .none })

/-- 44_bus_store.md R242 (its event is decision D27), R246 (decision D15), R255 (decision D4). -/
def Obligations.StoresThatAreNoPortAccess : Prop :=
  StoreCommand 0x02#8 .stDdrb ∧ StoreCommand 0x06#8 .stT1ll ∧ StoreCommand 0x0F#8 .stOrax ∧
  (∀ (v : Byte) (s : State), exec (.stDdrb v) s =
    .next { s with ddrb := v, events := [.portB s.orb v], result := .none }) ∧
  (∀ (v : Byte) (s : State), exec (.stT1ll v) s = .next { s with t1ll := v, events := [], result := .none }) ∧
  (∀ (v : Byte) (s : State), exec (.stOrax v) s =
    .next { s with ora := v, events := [.portA v s.ddra], result := .none })

/-- 44_bus_store.md R245 (decision D19 on `t1_out`), R247 (decision D15), R249 (decision D16). -/
def Obligations.TimerHighByteStores : Prop :=
  StoreCommand 0x05#8 .stT1ch ∧ StoreCommand 0x07#8 .stT1lh ∧ StoreCommand 0x09#8 .stT2ch ∧
  (∀ (v : Byte) (s : State), exec (.stT1ch v) s = .next { s with
    t1lh := v
    t1c := v ++ s.t1ll
    t1Pend := 0
    t1Fired := false
    t1Run := true
    ifr := combine (s.ifr &&& 0xBF#8) s.ier
    events := [.irq (request (s.ifr &&& 0xBF#8) s.ier)]
    result := .none }) ∧
  (∀ (v : Byte) (s : State), exec (.stT1lh v) s = .next { s with
    t1lh := v
    ifr := combine (s.ifr &&& 0xBF#8) s.ier
    events := [.irq (request (s.ifr &&& 0xBF#8) s.ier)]
    result := .none }) ∧
  (∀ (v : Byte) (s : State), exec (.stT2ch v) s = .next { s with
    t2c := v ++ s.t2ll
    t2Pend := 0
    t2Run := true
    ifr := combine (s.ifr &&& 0xDF#8) s.ier
    events := [.irq (request (s.ifr &&& 0xDF#8) s.ier)]
    result := .none })

/-- 44_bus_store.md R250, 45_bus_read_peek.md R280, 43_shift.md R221: every bus access of address 10 restarts the
shifter and clears `ifr[2]` (the flag clear is decision D20). -/
def Obligations.ShiftRegisterAccessesRestartTheShifter : Prop :=
  StoreCommand 0x0A#8 .stSr ∧ Command 0x4A#8 .rdSr ∧
  (∀ (v : Byte) (s : State), exec (.stSr v) s = .next { s with
    sr := v
    srCount := 0
    srPhase := false
    ifr := combine (s.ifr &&& 0xFB#8) s.ier
    events := [.sr v, .irq (request (s.ifr &&& 0xFB#8) s.ier)]
    result := .none }) ∧
  (∀ s : State, exec .rdSr s = .next { s with
    srCount := 0
    srPhase := false
    ifr := combine (s.ifr &&& 0xFB#8) s.ier
    events := [.irq (request (s.ifr &&& 0xFB#8) s.ier)]
    result := .byte s.sr })

/-- 44_bus_store.md R251: a changed shift mode `acr[4:2]` halts the shifter, a changed `acr[5]` cancels a pending
Timer 2 action, and nothing else moves. -/
def Obligations.StoreAcrHaltsTheShifterAndCancelsTimer2 : Prop :=
  StoreCommand 0x0B#8 .stAcr ∧
  ∀ (v : Byte) (s : State), exec (.stAcr v) s = .next { s with
    acr := v
    srCount := if (s.acr ^^^ v) &&& 0x1C#8 = 0#8 then s.srCount else 8
    srPhase := if (s.acr ^^^ v) &&& 0x1C#8 = 0#8 then s.srPhase else false
    t2Pend := if (s.acr ^^^ v) &&& 0x20#8 = 0#8 then s.t2Pend else 0
    events := [.acr v]
    result := .none }

/-- 44_bus_store.md R252 with 42_handshake.md R196 and R197: each line whose mode changed takes its idle level with
exactly one event, the other keeps its level with none. Which lines are affected, and the idle level 1 of every mode but
6 and 7, are decision D23 of the spec (entry 15). -/
def Obligations.StorePcrRederivesTheSecondaryLines : Prop :=
  StoreCommand 0x0C#8 .stPcr ∧
  ∀ (v : Byte) (s : State), exec (.stPcr v) s = .next { s with
    pcr := v
    ca2 := if (s.pcr ^^^ v) &&& 0x0E#8 = 0#8 then s.ca2 else !(v &&& 0x0E#8 == 0x0C#8)
    cb2 := if (s.pcr ^^^ v) &&& 0xE0#8 = 0#8 then s.cb2 else !(v &&& 0xE0#8 == 0xC0#8)
    events := [.pcr v] ++
      (if (s.pcr ^^^ v) &&& 0x0E#8 = 0#8 then [] else [.ca2 (!(v &&& 0x0E#8 == 0x0C#8))]) ++
      (if (s.pcr ^^^ v) &&& 0xE0#8 = 0#8 then [] else [.cb2 (!(v &&& 0xE0#8 == 0xC0#8))])
    result := .none }

/-- 44_bus_store.md R253, R254: bit by bit, a store to IFR clears the flags where `v` has a 1 and sets none, a store to
IER sets or clears the enables where `v` has a 1, and both recompute `ifr[7]` and report it. -/
def Obligations.FlagAndEnableStores : Prop :=
  StoreCommand 0x0D#8 .stIfr ∧ StoreCommand 0x0E#8 .stIer ∧
  (∀ (v : Byte) (s : State), ∃ ifr : Byte,
    exec (.stIfr v) s = .next { s with ifr := ifr, events := [.irq (ifr.getLsbD 7)], result := .none } ∧
    (∀ k < 7, ifr.getLsbD k = (s.ifr.getLsbD k && !v.getLsbD k)) ∧
    (ifr.getLsbD 7 = true ↔ ∃ k < 7, ifr.getLsbD k = true ∧ s.ier.getLsbD k = true)) ∧
  (∀ (v : Byte) (s : State), ∃ ier ifr : Byte,
    exec (.stIer v) s =
      .next { s with ier := ier, ifr := ifr, events := [.irq (ifr.getLsbD 7)], result := .none } ∧
    (∀ k < 7, ier.getLsbD k = (if v.getLsbD k then v.getLsbD 7 else s.ier.getLsbD k)) ∧
    ier.getLsbD 7 = s.ier.getLsbD 7 ∧
    (∀ k < 7, ifr.getLsbD k = s.ifr.getLsbD k) ∧
    (ifr.getLsbD 7 = true ↔ ∃ k < 7, ifr.getLsbD k = true ∧ ier.getLsbD k = true))

/-! ### READ and PEEK -/

/-- 45_bus_read_peek.md R270, R271; the clear masks they name are those of 42_handshake.md R201 (decision D20). The value
is composed before the latch is loaded. -/
def Obligations.PortReadsComposeLatchClearAndHandshake : Prop :=
  Command 0x40#8 .rdOrb ∧ Command 0x41#8 .rdOra ∧
  (∀ s : State, exec .rdOrb s = .next { s with
    ilb := if s.acr.getLsbD 1 then s.ilb else s.pbIn
    ifr := combine (s.ifr &&& keptByAccess (modeB s) 0x10#8 0x08#8) s.ier
    cb2 := levelAfter (modeB s) s.cb2
    events := [.irq (request (s.ifr &&& keptByAccess (modeB s) 0x10#8 0x08#8) s.ier)] ++
      (drives (modeB s) s.cb2).map .cb2
    result := .byte ((s.orb &&& s.ddrb) ||| ((if s.acr.getLsbD 1 then s.ilb else s.pbIn) &&& ~~~s.ddrb)) }) ∧
  (∀ s : State, exec .rdOra s = .next { s with
    ila := if s.acr.getLsbD 0 then s.ila else s.paIn
    ifr := combine (s.ifr &&& keptByAccess (modeA s) 0x02#8 0x01#8) s.ier
    ca2 := levelAfter (modeA s) s.ca2
    events := [.irq (request (s.ifr &&& keptByAccess (modeA s) 0x02#8 0x01#8) s.ier)] ++
      (drives (modeA s) s.ca2).map .ca2
    result := .byte ((s.ora &&& s.ddra) ||| ((if s.acr.getLsbD 0 then s.ila else s.paIn) &&& ~~~s.ddra)) })

/-- 45_bus_read_peek.md R272, R273, R275, R276, R277, R279, R281, R282, R283: the value, and no side effect. -/
def Obligations.PlainReadsReturnTheRegister : Prop :=
  Command 0x42#8 .rdDdrb ∧ Command 0x43#8 .rdDdra ∧ Command 0x45#8 .rdT1ch ∧ Command 0x46#8 .rdT1ll ∧
  Command 0x47#8 .rdT1lh ∧ Command 0x49#8 .rdT2ch ∧ Command 0x4B#8 .rdAcr ∧ Command 0x4C#8 .rdPcr ∧
  Command 0x4D#8 .rdIfr ∧
  ∀ s : State,
    exec .rdDdrb s = .next { s with events := [], result := .byte s.ddrb } ∧
    exec .rdDdra s = .next { s with events := [], result := .byte s.ddra } ∧
    exec .rdT1ch s = .next { s with events := [], result := .byte (BitVec.ofNat 8 (s.t1c.toNat / 256)) } ∧
    exec .rdT1ll s = .next { s with events := [], result := .byte s.t1ll } ∧
    exec .rdT1lh s = .next { s with events := [], result := .byte s.t1lh } ∧
    exec .rdT2ch s = .next { s with events := [], result := .byte (BitVec.ofNat 8 (s.t2c.toNat / 256)) } ∧
    exec .rdAcr s = .next { s with events := [], result := .byte s.acr } ∧
    exec .rdPcr s = .next { s with events := [], result := .byte s.pcr } ∧
    exec .rdIfr s = .next { s with events := [], result := .byte s.ifr }

/-- 45_bus_read_peek.md R274, R278: the live counter byte, and the timer's flag cleared. -/
def Obligations.CounterLowReadsClearTheFlag : Prop :=
  Command 0x44#8 .rdT1cl ∧ Command 0x48#8 .rdT2cl ∧
  (∀ s : State, exec .rdT1cl s = .next { s with
    ifr := combine (s.ifr &&& 0xBF#8) s.ier
    events := [.irq (request (s.ifr &&& 0xBF#8) s.ier)]
    result := .byte (BitVec.ofNat 8 s.t1c.toNat) }) ∧
  (∀ s : State, exec .rdT2cl s = .next { s with
    ifr := combine (s.ifr &&& 0xDF#8) s.ier
    events := [.irq (request (s.ifr &&& 0xDF#8) s.ier)]
    result := .byte (BitVec.ofNat 8 s.t2c.toNat) })

/-- 45_bus_read_peek.md R285 (decisions D4, D21), R284 (decision D37). Bit 7 of what `RD IER` returns is 0 in every
legal state. -/
def Obligations.ReadOraxAndReadIer : Prop :=
  Command 0x4F#8 .rdOrax ∧ Command 0x4E#8 .rdIer ∧
  (∀ s : State, exec .rdOrax s = .next { s with
    ila := if s.acr.getLsbD 0 then s.ila else s.paIn
    events := []
    result := .byte ((s.ora &&& s.ddra) ||| ((if s.acr.getLsbD 0 then s.ila else s.paIn) &&& ~~~s.ddra)) }) ∧
  (∀ s : State, exec .rdIer s = .next { s with events := [], result := .byte s.ier }) ∧
  (∀ s : State, Legal s → ∃ v : Byte, v.toNat < 128 ∧
    exec .rdIer s = .next { s with events := [], result := .byte v })

/-- 45_bus_read_peek.md R286, R287, R301. -/
def Obligations.PortPeeksComposeWithoutSideEffect : Prop :=
  Command 0x80#8 .pkOrb ∧ Command 0x81#8 .pkOra ∧ Command 0x8F#8 .pkOrax ∧
  (∀ s : State, exec .pkOrb s = .next { s with
    events := []
    result := .byte ((s.orb &&& s.ddrb) ||| ((if s.acr.getLsbD 1 then s.ilb else s.pbIn) &&& ~~~s.ddrb)) }) ∧
  (∀ s : State, exec .pkOra s = .next { s with
    events := []
    result := .byte ((s.ora &&& s.ddra) ||| ((if s.acr.getLsbD 0 then s.ila else s.paIn) &&& ~~~s.ddra)) }) ∧
  (∀ s : State, exec .pkOrax s = exec .pkOra s)

/-- 45_bus_read_peek.md R288 to R295. -/
def Obligations.DirectionAndTimerPeeks : Prop :=
  Command 0x82#8 .pkDdrb ∧ Command 0x83#8 .pkDdra ∧ Command 0x84#8 .pkT1cl ∧ Command 0x85#8 .pkT1ch ∧
  Command 0x86#8 .pkT1ll ∧ Command 0x87#8 .pkT1lh ∧ Command 0x88#8 .pkT2cl ∧ Command 0x89#8 .pkT2ch ∧
  ∀ s : State,
    exec .pkDdrb s = .next { s with events := [], result := .byte s.ddrb } ∧
    exec .pkDdra s = .next { s with events := [], result := .byte s.ddra } ∧
    exec .pkT1cl s = .next { s with events := [], result := .byte (BitVec.ofNat 8 s.t1c.toNat) } ∧
    exec .pkT1ch s = .next { s with events := [], result := .byte (BitVec.ofNat 8 (s.t1c.toNat / 256)) } ∧
    exec .pkT1ll s = .next { s with events := [], result := .byte s.t1ll } ∧
    exec .pkT1lh s = .next { s with events := [], result := .byte s.t1lh } ∧
    exec .pkT2cl s = .next { s with events := [], result := .byte (BitVec.ofNat 8 s.t2c.toNat) } ∧
    exec .pkT2ch s = .next { s with events := [], result := .byte (BitVec.ofNat 8 (s.t2c.toNat / 256)) }

/-- 45_bus_read_peek.md R296 to R300; "bit 7 = 0" of R300 in every legal state. -/
def Obligations.ShiftAndControlPeeks : Prop :=
  Command 0x8A#8 .pkSr ∧ Command 0x8B#8 .pkAcr ∧ Command 0x8C#8 .pkPcr ∧ Command 0x8D#8 .pkIfr ∧
  Command 0x8E#8 .pkIer ∧
  (∀ s : State,
    exec .pkSr s = .next { s with events := [], result := .byte s.sr } ∧
    exec .pkAcr s = .next { s with events := [], result := .byte s.acr } ∧
    exec .pkPcr s = .next { s with events := [], result := .byte s.pcr } ∧
    exec .pkIfr s = .next { s with events := [], result := .byte s.ifr } ∧
    exec .pkIer s = .next { s with events := [], result := .byte s.ier }) ∧
  (∀ s : State, Legal s → s.ier.toNat < 128)

/-- 45_bus_read_peek.md R302 (a) to (c), an inference the spec marks as its own: at every address PEEK returns READ's
byte and leaves the block as it was, and at the ten addresses without side effect READ is PEEK. -/
def Obligations.PeekReturnsWhatReadReturns : Prop :=
  (∀ (a : BitVec 4) (s : State), ∃ (p r : State) (v : Byte),
    exec (peekOp a) s = .next p ∧ exec (readOp a) s = .next r ∧ p.result = .byte v ∧ r.result = .byte v ∧
    p = { s with events := [], result := .byte v }) ∧
  (∀ (a : BitVec 4) (s : State), a.toNat ∈ [2, 3, 5, 6, 7, 9, 11, 12, 13, 14] →
    exec (readOp a) s = exec (peekOp a) s)

/-- 45_bus_read_peek.md R302 (e), an inference the spec marks as its own: with the pins at any value, a read or peek of
a port has the latch's bit wherever the direction is output. -/
def Obligations.PortReadsNeverSurfacePinsOnOutputBits : Prop :=
  ∀ (s : State) (pa pb : Byte) (k : Nat),
    (s.ddrb.getLsbD k = true → ∀ i ∈ [Instr.rdOrb, .pkOrb], ∃ (t : State) (v : Byte),
      exec i { s with paIn := pa, pbIn := pb } = .next t ∧ t.result = .byte v ∧ v.getLsbD k = s.orb.getLsbD k) ∧
    (s.ddra.getLsbD k = true → ∀ i ∈ [Instr.rdOra, .pkOra, .rdOrax, .pkOrax], ∃ (t : State) (v : Byte),
      exec i { s with paIn := pa, pbIn := pb } = .next t ∧ t.result = .byte v ∧ v.getLsbD k = s.ora.getLsbD k)

/-- 10_state.md R25 and R63: what the block drives on a port bit, and its four level outputs. -/
def Obligations.DrivenPinsAndLevelOutputs : Prop :=
  (∀ (v : Byte) (s t : State) (k : Fin 8), exec (.stOrb v) s = .next t →
    portPin t.orb t.ddrb k = if s.ddrb.getLsbD k then some (v.getLsbD k) else none) ∧
  (∀ (v : Byte) (s t : State) (k : Fin 8), exec (.stDdra v) s = .next t →
    portPin t.ora t.ddra k = if v.getLsbD k then some (s.ora.getLsbD k) else none) ∧
  (∀ s : State, Legal s → s.irqOut = request s.ifr s.ier) ∧
  (∀ s : State, s.ca2Out = s.ca2 ∧ s.cb2Out = s.cb2 ∧ s.t1OutLevel = s.t1Out)

/-! ### EDGE -/

/-- 42_handshake.md R192. -/
def Obligations.EdgeOnCa1SetsTheFlagAndLatchesPortA : Prop :=
  Command 0xD0#8 .edgeCa1Fall ∧ Command 0xD1#8 .edgeCa1Rise ∧
  ∀ (level : Bool) (s : State), exec (if level then .edgeCa1Rise else .edgeCa1Fall) s = .next { s with
    ifr := combine (s.ifr ||| onlyIf (level == s.pcr.getLsbD 0) 0x02#8) s.ier
    ila := if level = s.pcr.getLsbD 0 ∧ s.acr.getLsbD 0 = true then s.paIn else s.ila
    events := [.irq (request (s.ifr ||| onlyIf (level == s.pcr.getLsbD 0) 0x02#8) s.ier)]
    result := .none }

/-- 42_handshake.md R193 (that an output line ignores the notification is decision D24). -/
def Obligations.EdgeOnCa2SetsLevelAndFlag : Prop :=
  Command 0xD2#8 .edgeCa2Fall ∧ Command 0xD3#8 .edgeCa2Rise ∧
  ∀ (level : Bool) (s : State), exec (if level then .edgeCa2Rise else .edgeCa2Fall) s =
    if s.pcr.getLsbD 3 then .next { s with events := [], result := .none }
    else .next { s with
      ca2 := level
      ifr := combine (s.ifr ||| onlyIf (level == s.pcr.getLsbD 2) 0x01#8) s.ier
      events := [.irq (request (s.ifr ||| onlyIf (level == s.pcr.getLsbD 2) 0x01#8) s.ier)]
      result := .none }

/-- 42_handshake.md R194, with the shift of 43_shift.md R222 and R227: the flag follows `pcr[4]`, the shifter follows
`acr[4:2]`, and the events of the shift come after the `IRQ` of the flag. That CB1 is the external clock, which of its
edges clocks which direction, and what enters bit 0 are decision D30 of the spec, and that the shift writes and reads
`cb2` whatever `pcr` says is decision D41 (entry 15). -/
def Obligations.EdgeOnCb1SetsTheFlagAndClocksTheShifter : Prop :=
  Command 0xD4#8 .edgeCb1Fall ∧ Command 0xD5#8 .edgeCb1Rise ∧
  ∀ (level : Bool) (s : State),
    let active : Bool := level == s.pcr.getLsbD 4
    let clock : Bool := shiftSource s == 3 && decide (s.srCount < 8) && (level != s.acr.getLsbD 4)
    let flags : Byte := s.ifr ||| onlyIf active 0x10#8
    exec (if level then .edgeCb1Rise else .edgeCb1Fall) s = .next { s with
      ifr := combine (flags ||| onlyIf (clock && s.srCount == 7) 0x04#8) s.ier
      ilb := if active && s.acr.getLsbD 1 then s.pbIn else s.ilb
      sr := if clock then shifted s else s.sr
      cb2 := if clock && s.acr.getLsbD 4 then s.sr.getLsbD 7 else s.cb2
      srCount := if clock then s.srCount + 1 else s.srCount
      events := .irq (request flags s.ier) :: (if clock then shiftEvents s flags else [])
      result := .none }

/-- 42_handshake.md R195. -/
def Obligations.EdgeOnCb2SetsLevelAndFlag : Prop :=
  Command 0xD6#8 .edgeCb2Fall ∧ Command 0xD7#8 .edgeCb2Rise ∧
  ∀ (level : Bool) (s : State), exec (if level then .edgeCb2Rise else .edgeCb2Fall) s =
    if s.pcr.getLsbD 7 then .next { s with events := [], result := .none }
    else .next { s with
      cb2 := level
      ifr := combine (s.ifr ||| onlyIf (level == s.pcr.getLsbD 6) 0x08#8) s.ier
      events := [.irq (request (s.ifr ||| onlyIf (level == s.pcr.getLsbD 6) 0x08#8) s.ier)]
      result := .none }

/-- 40_timers.md R140 (decision D17), with the underflow action of R138 and its shift (43_shift.md R222 and R226,
decisions D30 and D41, entry 15): a falling edge decrements a running Timer 2 in
pulse-counting mode and at 0 applies the action at once; any other edge changes nothing. -/
def Obligations.EdgeOnPb6CountsAPulse : Prop :=
  Command 0xD8#8 .edgePb6Fall ∧ Command 0xD9#8 .edgePb6Rise ∧
  (∀ s : State, exec .edgePb6Rise s = .next { s with events := [], result := .none }) ∧
  ∀ s : State,
    let counts : Bool := s.acr.getLsbD 5 && s.t2Run
    let due : Bool := counts && s.t2c == 0#16
    let clock : Bool := due && shiftSource s == 1 && decide (s.srCount < 8)
    let flags : Byte := s.ifr ||| onlyIf due 0x20#8 ||| onlyIf (clock && s.srCount == 7) 0x04#8
    exec .edgePb6Fall s = .next { s with
      t2c := if counts then s.t2c - 1#16 else s.t2c
      t2Run := s.t2Run && !due
      t2Pend := if due then 0 else s.t2Pend
      ifr := if due then combine flags s.ier else s.ifr
      sr := if clock then shifted s else s.sr
      cb2 := if clock && s.acr.getLsbD 4 then s.sr.getLsbD 7 else s.cb2
      srCount := if clock then s.srCount + 1 else s.srCount
      events := (if due then [.irq (request (s.ifr ||| 0x20#8) s.ier)] else []) ++
        (if clock then shiftEvents s (s.ifr ||| 0x20#8) else [])
      result := .none }

/-! ### TICK -/

/-- 40_timers.md R132, R134, and the table of R135 (an inference the spec marks as its own): Timer 1 through one TICK,
for every latency. -/
def Obligations.TickDrivesTimer1 : Prop :=
  Command 0xC0#8 .tick ∧
  ∀ s : State, ∃ t : State, exec .tick s = .next t ∧
    t.t1c = (if timer1Due s && s.acr.getLsbD 6 then s.t1lh ++ s.t1ll
             else if s.t1Run then s.t1c - 1#16 else s.t1c) ∧
    t.t1Pend = (if s.t1Run = false then s.t1Pend
                else if 0 < s.t1Pend then s.t1Pend - 1
                else if s.t1c = 0#16 then Config.t1Latency - 1 else 0) ∧
    t.t1Run = (s.t1Run && !(timer1Due s && !s.acr.getLsbD 6)) ∧
    t.t1Fired = (s.t1Fired || (timer1Due s && !s.acr.getLsbD 6)) ∧
    t.t1Out = (if timer1Due s && s.acr.getLsbD 6 && s.acr.getLsbD 7 then !s.t1Out else s.t1Out) ∧
    t.ifr.getLsbD 6 = (s.ifr.getLsbD 6 || timer1Due s)

/-- 40_timers.md R137, R138: Timer 2 through one TICK, for every latency. -/
def Obligations.TickDrivesTimer2 : Prop :=
  ∀ s : State, ∃ t : State, exec .tick s = .next t ∧
    t.t2c = (if timer2Counts s then s.t2c - 1#16 else s.t2c) ∧
    t.t2Pend = (if timer2Counts s = false then s.t2Pend
                else if 0 < s.t2Pend then s.t2Pend - 1
                else if s.t2c = 0#16 then Config.t2Latency - 1 else 0) ∧
    t.t2Run = (s.t2Run && !timer2Due s) ∧
    t.ifr.getLsbD 5 = (s.ifr.getLsbD 5 || timer2Due s)

/-- 43_shift.md R222, R225, R226 (decision D30): the shifter through one TICK, clocked by a Timer 2 underflow in source
1 and by every second TICK in source 2. -/
def Obligations.TickDrivesTheShifter : Prop :=
  ∀ s : State, ∃ t : State, exec .tick s = .next t ∧
    t.sr = (if shiftDue s then shifted s else s.sr) ∧
    t.cb2 = (if shiftDue s && s.acr.getLsbD 4 then s.sr.getLsbD 7 else s.cb2) ∧
    t.srCount = (if shiftDue s then s.srCount + 1 else s.srCount) ∧
    t.srPhase = (if shiftSource s = 2 ∧ s.srCount < 8 then !s.srPhase else s.srPhase) ∧
    t.ifr.getLsbD 2 = (s.ifr.getLsbD 2 || (shiftDue s && s.srCount == 7))

/-- 40_timers.md R130 (the order is decision D31): the flags, the events and everything TICK leaves alone. `ifr` changes
only when an action or a completion falls in this TICK. -/
def Obligations.TickFlagsEventsAndFrame : Prop :=
  ∀ s : State, ∃ t : State, exec .tick s = .next t ∧
    t.ifr = (if tickSets s = 0#8 then s.ifr else combine (s.ifr ||| tickSets s) s.ier) ∧
    t.events = tickEvents s ∧ t.result = .none ∧
    t = { s with
      t1c := t.t1c, t1Pend := t.t1Pend, t1Run := t.t1Run, t1Fired := t.t1Fired, t1Out := t.t1Out,
      t2c := t.t2c, t2Pend := t.t2Pend, t2Run := t.t2Run,
      sr := t.sr, cb2 := t.cb2, srCount := t.srCount, srPhase := t.srPhase,
      ifr := t.ifr, events := t.events, result := t.result }

/-- 40_timers.md R130: "with `t1_run` = 0, `t2_run` = 0 and the shifter not in source 2 or halted, TICK changes nothing
and emits nothing". -/
def Obligations.IdleTickChangesNothing : Prop :=
  ∀ s : State, s.t1Run = false → s.t2Run = false → (shiftSource s ≠ 2 ∨ s.srCount = 8) →
    exec .tick s = .next { s with events := [], result := .none }

/-- 60_exceptions.md R347 (a), an inference the spec marks as its own: with both timers due in one TICK and no shift,
both flags are set and two `IRQ` events are emitted, Timer 1's first. -/
def Obligations.BothTimersDueInOneTick : Prop :=
  ∀ s : State, timer1Due s = true → timer2Due s = true → shiftDue s = false → s.acr.getLsbD 7 = false →
    ∃ t : State, exec .tick s = .next t ∧ t.ifr.getLsbD 6 = true ∧ t.ifr.getLsbD 5 = true ∧
      t.events = [.irq (request (s.ifr ||| 0x40#8) s.ier), .irq (request (s.ifr ||| 0x60#8) s.ier)]

/-- 40_timers.md R141 (a) and (d), an inference the spec marks as its own, and 95_test_vectors.md S3: a one-shot load of
N keeps `ifr[6]` at 0 until the TICK number N + L1, which sets it; the counter is live until then and frozen after, and
no later TICK sets the flag again (the timer is stopped). -/
def Obligations.Timer1OneShotFiresOnceAfterItsLatency : Prop :=
  ∀ (v : Byte) (s loaded : State), exec (.stT1ch v) s = .next loaded → s.acr.getLsbD 6 = false →
    ∀ n : Nat, ∃ t : State, afterTicks n loaded = .next t ∧
      (n < (v ++ s.t1ll).toNat + Config.t1Latency →
        t.ifr.getLsbD 6 = false ∧ t.t1Run = true ∧ t.t1Fired = false ∧
        t.t1c = (v ++ s.t1ll) - BitVec.ofNat 16 n) ∧
      ((v ++ s.t1ll).toNat + Config.t1Latency ≤ n →
        t.ifr.getLsbD 6 = true ∧ t.t1Run = false ∧ t.t1Fired = true ∧ t.t1Pend = 0 ∧
        t.t1c = 0#16 - BitVec.ofNat 16 Config.t1Latency)

/-- 40_timers.md R141 (b), an inference the spec marks as its own, and 95_test_vectors.md S4: in continuous mode with a
constant latch N the k-th action is k * (N + L1) TICKs after the load; then the counter holds the latch again and the
output line has toggled k times exactly when `acr[7]` is 1; between two actions it does not move. -/
def Obligations.Timer1ContinuousPeriodIsLatchPlusLatency : Prop :=
  ∀ (v : Byte) (s loaded : State), exec (.stT1ch v) s = .next loaded → s.acr.getLsbD 6 = true →
    ∀ k n : Nat, n < (v ++ s.t1ll).toNat + Config.t1Latency →
      ∃ t : State, afterTicks (k * ((v ++ s.t1ll).toNat + Config.t1Latency) + n) loaded = .next t ∧
        t.t1c = (v ++ s.t1ll) - BitVec.ofNat 16 n ∧ t.t1Run = true ∧
        t.ifr.getLsbD 6 = decide (0 < k) ∧
        t.t1Out = (s.t1Out ^^ (s.acr.getLsbD 7 && k % 2 == 1))

/-- 40_timers.md R141 (c) and (d), an inference the spec marks as its own: Timer 2 in timed mode, as Timer 1 in one-shot
mode, with L2 and `ifr[5]`. -/
def Obligations.Timer2TimedFiresOnceAfterItsLatency : Prop :=
  ∀ (v : Byte) (s loaded : State), exec (.stT2ch v) s = .next loaded → s.acr.getLsbD 5 = false →
    ∀ n : Nat, ∃ t : State, afterTicks n loaded = .next t ∧
      (n < (v ++ s.t2ll).toNat + Config.t2Latency →
        t.ifr.getLsbD 5 = false ∧ t.t2Run = true ∧ t.t2c = (v ++ s.t2ll) - BitVec.ofNat 16 n) ∧
      ((v ++ s.t2ll).toNat + Config.t2Latency ≤ n →
        t.ifr.getLsbD 5 = true ∧ t.t2Run = false ∧ t.t2Pend = 0 ∧
        t.t2c = 0#16 - BitVec.ofNat 16 Config.t2Latency)

/-- 40_timers.md R140 (decision D17): in pulse-counting mode the action runs on falling edge number N + 1, whatever the
latency, and the counter then stays at 0xFFFF. -/
def Obligations.Timer2PulseModeFiresOnEdgeNPlusOne : Prop :=
  ∀ (v : Byte) (s loaded : State), exec (.stT2ch v) s = .next loaded → s.acr.getLsbD 5 = true →
    ∀ n : Nat, ∃ t : State, afterPulses n loaded = .next t ∧
      (n ≤ (v ++ s.t2ll).toNat →
        t.ifr.getLsbD 5 = false ∧ t.t2Run = true ∧ t.t2c = (v ++ s.t2ll) - BitVec.ofNat 16 n) ∧
      ((v ++ s.t2ll).toNat < n → t.ifr.getLsbD 5 = true ∧ t.t2Run = false ∧ t.t2c = 0xFFFF#16)

/-- 43_shift.md R223 and R225 (decision D30; R223 is an inference the spec marks as its own): after a store of `v` in
source 2 with direction out, the shift-complete flag is set by TICK 16 and not before, eight steps restore the
register, and CB2 holds bit 0 of `v`. -/
def Obligations.ShiftOutOfAByteTakesSixteenTicks : Prop :=
  ∀ (v : Byte) (s loaded : State), exec (.stSr v) s = .next loaded → s.acr &&& 0x1C#8 = 0x18#8 →
    (∀ n : Nat, n < 16 → ∃ t : State, afterTicks n loaded = .next t ∧
      t.ifr.getLsbD 2 = false ∧ t.srCount = n / 2 ∧ t.sr = v.rotateLeft (n / 2)) ∧
    (∀ n : Nat, 16 ≤ n → ∃ t : State, afterTicks n loaded = .next t ∧
      t.ifr.getLsbD 2 = true ∧ t.srCount = 8 ∧ t.sr = v ∧ t.cb2 = v.getLsbD 0)

/-- 43_shift.md R223 and R227 (an inference the spec marks as its own, and decision D30): in source 3 with direction in
and CB2 an input, eight bits presented on CB2 and clocked by rising edges on CB1 end in `sr`, the first in bit 7. -/
def Obligations.ShiftInCollectsEightLevels : Prop :=
  ∀ (s loaded : State) (bits : List Bool), exec .rdSr s = .next loaded → s.acr &&& 0x1C#8 = 0x0C#8 →
    s.pcr.getLsbD 7 = false → bits.length = 8 →
    ∃ t : State, perform (bits.flatMap clockIn) loaded = .next t ∧
      t.srCount = 8 ∧ t.ifr.getLsbD 2 = true ∧
      ∀ k : Fin 8, t.sr.getLsbD (7 - k.val) = bits.getD k.val false

/-! ### RESET, INIT and the snapshot -/

/-- 46_system_snapshot.md R320, 10_state.md R67 (decisions D33, D34): every field RESET gives a value has it, whatever
values the seven unspecified fields take. -/
def Obligations.ResetForcesTheDefaults : Prop :=
  Command 0xC1#8 .reset ∧
  ∀ s : State, ∃ (t1c t2c : Half) (t1ll t1lh t2ll ila ilb : Byte) (draws : Nat),
    exec .reset s = .next
      { orb := 0x00#8, ora := 0x00#8, ddrb := 0x00#8, ddra := 0x00#8, t1c := t1c, t1ll := t1ll, t1lh := t1lh,
        t2c := t2c, t2ll := t2ll, sr := 0x00#8, acr := 0x00#8, pcr := 0x00#8, ifr := 0x00#8, ier := 0x00#8,
        ila := ila, ilb := ilb, t1Run := false, t1Fired := false, t1Pend := 0, t1Out := true, t2Run := false,
        t2Pend := 0, srCount := 8, srPhase := false, ca2 := true, cb2 := true,
        events := [.irq false, .adapterReset], result := .none,
        paIn := s.paIn, pbIn := s.pbIn, pinFeed := s.pinFeed, stream := s.stream, draws := draws }

/-- 46_system_snapshot.md R320: RESET "has the same effect whatever the state before, except for the fields marked
unspecified". The nineteen fields that R320 specifies are so by the rule. That `t1c`, `t1ll`, `t1lh`, `t2c`, `t2ll`,
`ila` and `ilb` agree too is the MODEL'S CHOICE (DESIGN CHOICE, entry 4) and no rule of the spec: the free values RESET
draws for them depend on the count of values drawn alone, and the two states have the same count. They agree as well in
what the environment presents (entries 1 and 2). -/
def Obligations.ResetForgetsTheStateBefore : Prop :=
  ∀ s s' : State, s.paIn = s'.paIn → s.pbIn = s'.pbIn → s.pinFeed = s'.pinFeed → s.stream = s'.stream →
    s.draws = s'.draws → exec .reset s = exec .reset s'

/-- 46_system_snapshot.md R321 (decision D35): INIT stops both timers, cancels what is pending, halts the shifter and
emits nothing; what the other fields hold is not said here. A TICK right after it changes no field of the block. -/
def Obligations.InitDisablesTheStateMachines : Prop :=
  Command 0xC2#8 .init ∧
  ∀ s : State, ∃ t : State, exec .init s = .next t ∧
    t.t1Run = false ∧ t.t2Run = false ∧ t.t1Pend = 0 ∧ t.t2Pend = 0 ∧ t.srCount = 8 ∧ t.srPhase = false ∧
    t.events = [] ∧ t.result = .none ∧
    t.paIn = s.paIn ∧ t.pbIn = s.pbIn ∧ t.pinFeed = s.pinFeed ∧ t.stream = s.stream ∧
    ∃ u : State, exec .tick t = .next u ∧ SameBlock u t

/-- 46_system_snapshot.md R322, R323, R324 (decision D36): SNAPW changes no field of the block, emits nothing, and
returns 22 bytes; byte by byte what they hold, in every state whose counts fit their fields. -/
def Obligations.SnapshotWriteReturnsTheLayout : Prop :=
  Command 0xC3#8 .snapw ∧
  ∀ s : State, s.srCount ≤ 8 → s.t1Pend < 256 → s.t2Pend < 256 →
    ∃ fa fb pend1 pend2 : Byte,
      exec .snapw s = .next { s with
        events := []
        result := .snapshot [s.ora, s.orb, s.ddra, s.ddrb, BitVec.ofNat 8 s.t1c.toNat,
          BitVec.ofNat 8 (s.t1c.toNat / 256), s.t1ll, s.t1lh, BitVec.ofNat 8 s.t2c.toNat,
          BitVec.ofNat 8 (s.t2c.toNat / 256), s.t2ll, s.sr, s.acr, s.pcr, s.ifr, s.ier, s.ila, s.ilb,
          fa, fb, pend1, pend2] } ∧
      fa.getLsbD 0 = s.t1Run ∧ fa.getLsbD 1 = s.t1Fired ∧ fa.getLsbD 2 = s.t2Run ∧
      fa.getLsbD 3 = s.acr.getLsbD 5 ∧ fa.getLsbD 4 = s.ca2 ∧ fa.getLsbD 5 = s.cb2 ∧
      fa.getLsbD 6 = false ∧ fa.getLsbD 7 = false ∧
      fb.toNat % 16 = s.srCount ∧ fb.getLsbD 4 = s.srPhase ∧ fb.getLsbD 5 = s.t1Out ∧
      fb.getLsbD 6 = false ∧ fb.getLsbD 7 = false ∧
      pend1.toNat = s.t1Pend ∧ pend2.toNat = s.t2Pend

/-- 60_exceptions.md R342 and 46_system_snapshot.md R325 (decision D36), R326: a payload that breaks any condition (a)
to (h) gives `format_error`, and the block is in the state it was in with no event. -/
def Obligations.MalformedSnapshotsChangeNothing : Prop :=
  ∀ (s : State) (b : List Byte),
    (b.length ≠ 22 ∨
     64 ≤ (b.getD 18 0#8).toNat ∨ 64 ≤ (b.getD 19 0#8).toNat ∨
     8 < (b.getD 19 0#8).toNat % 16 ∨
     (b.getD 18 0#8).getLsbD 3 ≠ (b.getD 12 0#8).getLsbD 5 ∨
     Config.t1Latency - 1 < (b.getD 20 0#8).toNat ∨ Config.t2Latency - 1 < (b.getD 21 0#8).toNat ∨
     (0 < (b.getD 20 0#8).toNat ∧ (b.getD 18 0#8).getLsbD 0 = false) ∨
     (0 < (b.getD 21 0#8).toNat ∧
       ((b.getD 18 0#8).getLsbD 2 = false ∨ (b.getD 12 0#8).getLsbD 5 = true)) ∨
     ((b.getD 18 0#8).getLsbD 1 = true ∧ (b.getD 18 0#8).getLsbD 0 = true)) →
    exec (.snapr b) s = .next { s with events := [], result := .formatError }

/-- 46_system_snapshot.md R325, R326 (decisions D36, D27): a payload that meets (a) to (h) restores every field, with
`ifr[7]` recomputed and bit 7 of the enables dropped, and emits exactly the four undump events and `IRQ_RESTORE`. -/
def Obligations.ValidSnapshotsRestoreEveryField : Prop :=
  (∀ payload rest : List Byte, payload.length = 22 →
    decode (0xC4#8 :: payload ++ rest) = .ok (.snapr payload, rest)) ∧
  ∀ (s : State) (ora orb ddra ddrb t1cl t1ch t1ll t1lh t2cl t2ch t2ll sr acr pcr ifr ier ila ilb fa fb p1 p2 : Byte),
    fa.toNat < 64 → fb.toNat < 64 → fb.toNat % 16 ≤ 8 → fa.getLsbD 3 = acr.getLsbD 5 →
    p1.toNat ≤ Config.t1Latency - 1 → p2.toNat ≤ Config.t2Latency - 1 →
    (0 < p1.toNat → fa.getLsbD 0 = true) →
    (0 < p2.toNat → fa.getLsbD 2 = true ∧ acr.getLsbD 5 = false) →
    (fa.getLsbD 1 = true → fa.getLsbD 0 = false) →
    exec (.snapr [ora, orb, ddra, ddrb, t1cl, t1ch, t1ll, t1lh, t2cl, t2ch, t2ll, sr, acr, pcr, ifr, ier, ila, ilb,
        fa, fb, p1, p2]) s = .next { s with
      ora := ora, orb := orb, ddra := ddra, ddrb := ddrb, t1c := t1ch ++ t1cl, t1ll := t1ll, t1lh := t1lh,
      t2c := t2ch ++ t2cl, t2ll := t2ll, sr := sr, acr := acr, pcr := pcr,
      ifr := combine ifr ier, ier := ier &&& 0x7F#8, ila := ila, ilb := ilb,
      t1Run := fa.getLsbD 0, t1Fired := fa.getLsbD 1, t2Run := fa.getLsbD 2, ca2 := fa.getLsbD 4,
      cb2 := fa.getLsbD 5, srCount := fb.toNat % 16, srPhase := fb.getLsbD 4, t1Out := fb.getLsbD 5,
      t1Pend := p1.toNat, t2Pend := p2.toNat,
      events := [.undumpPortA ora ddra, .undumpPortB orb ddrb, .undumpPcr pcr, .undumpAcr acr,
        .irqRestore (request ifr ier)],
      result := .ok }

/-- 46_system_snapshot.md R327, an inference the spec marks as its own: from any legal state, SNAPW's bytes restored in
any state give `ok` and the same 26 fields. -/
def Obligations.SnapshotRoundTripRestoresTheBlock : Prop :=
  ∀ s s' : State, Legal s → ∃ (w r : State) (b : List Byte),
    exec .snapw s = .next w ∧ w.result = .snapshot b ∧ SameBlock w s ∧ b.length = 22 ∧
    exec (.snapr b) s' = .next r ∧ r.result = .ok ∧ SameBlock r s

/-! ### Laws over all operations -/

/-- 60_exceptions.md R340: no operation fails, in any state, with any operand; the exec of a SNAPR whose payload is
malformed answers a next state too (R342). -/
def Obligations.EveryOperationCompletes : Prop :=
  ∀ (i : Instr) (s : State), ∃ t : State, exec i s = .next t ∧
    ((∀ b, i ≠ .snapr b) → t.result ≠ .formatError ∧ t.result ≠ .ok)

/-- 10_state.md R41 (a) to (f), R33 (R41 is an inference the spec marks as its own): every step that does not perform
INIT keeps a legal state legal. -/
def Obligations.StepsKeepTheStateLegal : Prop :=
  ∀ s t : State, Legal s → step s = .next t → (∀ rest, decode s.stream ≠ .ok (.init, rest)) → Legal t

/-- 10_state.md R41 (c) to (f): every step, INIT among them, keeps the sequencers of the timers and the shifter
legal. -/
def Obligations.StepsKeepTheSequencersLegal : Prop :=
  ∀ s t : State, SequencersLegal s → step s = .next t → SequencersLegal t

/-- 10_state.md R41: the state after reset is legal. -/
def Obligations.ResetStateIsLegal : Prop := Legal State.reset

/-- 10_state.md R33, R41, 70_reset_and_hazards.md R371: from ANY state, RESET gives a legal state, and so does a SNAPR
that returns `ok`. -/
def Obligations.ResetAndRestoreEstablishLegality : Prop :=
  (∀ s : State, ∃ t : State, exec .reset s = .next t ∧ Legal t) ∧
  (∀ (s t : State) (b : List Byte), exec (.snapr b) s = .next t → t.result = .ok → Legal t)

/-- 10_state.md R63 and 41_interrupt_flags.md R174 (c), an inference the spec marks as its own: the last event of an
operation for one of the four level outputs carries the output's level, and without one the output has not moved. R63
excepts RESET and SNAPR for `ca2_out`, `cb2_out` and `t1_out`, and INIT leaves the fields open (R321). EDGE CA2 and EDGE
CB2 on an INPUT line are excepted too: they move the level and emit no such event (42_handshake.md R193 and R195,
70_reset_and_hazards.md R381), and the last two clauses say so. For CA2 this exception to R63 is the model's inference
(DEDUCED, entry 11). A line that becomes an output reports its level in that very operation, so of a line that is an
output R63's sentence holds with R63's own exceptions alone. -/
def Obligations.LevelOutputsAreTheLastReportedLevels : Prop :=
  ∀ (i : Instr) (s t : State), exec i s = .next t →
    (i ≠ .init → LastReport (irqLevels t.events) s.irqOut t.irqOut) ∧
    (commandIn i [0xC1#8, 0xC2#8, 0xC4#8] = false →
      LastReport (t1OutLevels t.events) s.t1OutLevel t.t1OutLevel ∧
      ((commandIn i [0xD2#8, 0xD3#8] = true → s.pcr.getLsbD 3 = true) →
        LastReport (ca2Levels t.events) s.ca2Out t.ca2Out) ∧
      ((commandIn i [0xD6#8, 0xD7#8] = true → s.pcr.getLsbD 7 = true) →
        LastReport (cb2Levels t.events) s.cb2Out t.cb2Out) ∧
      (s.pcr.getLsbD 3 = false → t.pcr.getLsbD 3 = true → ca2Levels t.events = [t.ca2Out]) ∧
      (s.pcr.getLsbD 7 = false → t.pcr.getLsbD 7 = true → cb2Levels t.events = [t.cb2Out])) ∧
    (commandIn i [0xD2#8, 0xD3#8] = true → s.pcr.getLsbD 3 = false →
      ca2Levels t.events = [] ∧ t.ca2Out = (cmdOf i).getLsbD 0) ∧
    (commandIn i [0xD6#8, 0xD7#8] = true → s.pcr.getLsbD 7 = false →
      cb2Levels t.events = [] ∧ t.cb2Out = (cmdOf i).getLsbD 0)

/-- 40_timers.md R135, an inference the spec marks as its own: "No other operation changes the three fields", and the
same for Timer 2's two (R139), beside the operations the tables name. -/
def Obligations.OnlyTheNamedOperationsMoveTheTimers : Prop :=
  ∀ (i : Instr) (s t : State), exec i s = .next t →
    (commandIn i [0x05#8, 0xC0#8, 0xC1#8, 0xC2#8, 0xC4#8] = false →
      t.t1Run = s.t1Run ∧ t.t1Fired = s.t1Fired ∧ t.t1Pend = s.t1Pend ∧ t.t1c = s.t1c) ∧
    (commandIn i [0x09#8, 0x0B#8, 0xC0#8, 0xC1#8, 0xC2#8, 0xC4#8, 0xD8#8] = false →
      t.t2Run = s.t2Run ∧ t.t2Pend = s.t2Pend ∧ t.t2c = s.t2c)

/-- 10_state.md R21, R22, R27, R29, R34, R35, R37: each latch, direction and control register is written only by a STORE
to its own address (the Timer 1 latch and `ora` at two), by RESET, INIT and SNAPR. -/
def Obligations.RegistersAreWrittenOnlyAtTheirAddress : Prop :=
  ∀ (i : Instr) (s t : State), exec i s = .next t → commandIn i [0xC1#8, 0xC2#8, 0xC4#8] = false →
    (commandIn i [0x00#8] = false → t.orb = s.orb) ∧
    (commandIn i [0x01#8, 0x0F#8] = false → t.ora = s.ora) ∧
    (commandIn i [0x02#8] = false → t.ddrb = s.ddrb) ∧
    (commandIn i [0x03#8] = false → t.ddra = s.ddra) ∧
    (commandIn i [0x04#8, 0x06#8] = false → t.t1ll = s.t1ll) ∧
    (commandIn i [0x05#8, 0x07#8] = false → t.t1lh = s.t1lh) ∧
    (commandIn i [0x08#8] = false → t.t2ll = s.t2ll) ∧
    (commandIn i [0x0B#8] = false → t.acr = s.acr) ∧
    (commandIn i [0x0C#8] = false → t.pcr = s.pcr) ∧
    (commandIn i [0x0E#8] = false → t.ier = s.ier)

/-- 10_state.md R60: the pins are sampled only by the operations named there, and with latching on not by a READ or PEEK
of the port; for every other operation their value is irrelevant. -/
def Obligations.PinsMatterOnlyWhereTheyAreSampled : Prop :=
  ∀ (i : Instr) (s : State) (p : Byte),
    (samplesPortA i = false →
      exec i { s with paIn := p } = mapNext (fun t => { t with paIn := p }) (exec i s)) ∧
    (samplesPortB i = false →
      exec i { s with pbIn := p } = mapNext (fun t => { t with pbIn := p }) (exec i s)) ∧
    (s.acr.getLsbD 0 = true → i ≠ .edgeCa1Fall → i ≠ .edgeCa1Rise →
      exec i { s with paIn := p } = mapNext (fun t => { t with paIn := p }) (exec i s)) ∧
    (s.acr.getLsbD 1 = true → i ≠ .edgeCb1Fall → i ≠ .edgeCb1Rise →
      exec i { s with pbIn := p } = mapNext (fun t => { t with pbIn := p }) (exec i s))

/-- The model's own fields (entries 1, 2, 4 and 7), on 20_memory.md R88: no operation touches what the environment
presents, only RESET and INIT draw free values, and what the last operation returned has no influence on the next. -/
def Obligations.OperationsLeaveTheEnvironmentAlone : Prop :=
  ∀ (i : Instr) (s t : State), exec i s = .next t →
    t.stream = s.stream ∧ t.pinFeed = s.pinFeed ∧ t.paIn = s.paIn ∧ t.pbIn = s.pbIn ∧
    (commandIn i [0xC1#8, 0xC2#8] = false → t.draws = s.draws) ∧
    (∀ (es : List Event) (r : Result), exec i { s with events := es, result := r } = .next t)

/-- 42_handshake.md R199: in PULSE mode a port access, STORE or READ, produces exactly one assert-then-clear pair on the
pair's secondary line within that operation, and the line is at 1 when it ends; no other line is driven. -/
def Obligations.PulseModeEmitsOnePairPerAccess : Prop :=
  ∀ s : State,
    (modeA s = 5 → ∀ i, i = .rdOra ∨ (∃ v, i = .stOra v) → ∃ t : State, exec i s = .next t ∧
      ca2Levels t.events = [false, true] ∧ cb2Levels t.events = [] ∧ t.ca2 = true ∧ t.cb2 = s.cb2) ∧
    (modeB s = 5 → ∀ i, i = .rdOrb ∨ (∃ v, i = .stOrb v) → ∃ t : State, exec i s = .next t ∧
      cb2Levels t.events = [false, true] ∧ ca2Levels t.events = [] ∧ t.cb2 = true ∧ t.ca2 = s.ca2)

/-- 42_handshake.md R198 (decision D22): in HANDSHAKE mode a port access of pair A inverts CA2, and nothing else moves
it: not an edge on CA1, not TICK, no operation but a PCR store, RESET, INIT and SNAPR. -/
def Obligations.HandshakeLineMovesOnlyOnPortAccess : Prop :=
  ∀ (i : Instr) (s t : State), modeA s = 4 → exec i s = .next t →
    (commandIn i [0x01#8, 0x41#8] = true → t.ca2 = !s.ca2 ∧ ca2Levels t.events = [!s.ca2]) ∧
    (commandIn i [0x01#8, 0x41#8, 0x0C#8, 0xC1#8, 0xC2#8, 0xC4#8] = false →
      t.ca2 = s.ca2 ∧ ca2Levels t.events = [])
end

