-- ==== Sys2Proof/Laws/State.lean ====
section
/-! SUPPORT. Each field after each shared update of the state, so that no later proof unfolds one. -/

namespace Sys2Proof.Machine

@[simp] theorem State.begin_orb (s : State) : s.begin.orb = s.orb := rfl
@[simp] theorem State.begin_ora (s : State) : s.begin.ora = s.ora := rfl
@[simp] theorem State.begin_ddrb (s : State) : s.begin.ddrb = s.ddrb := rfl
@[simp] theorem State.begin_ddra (s : State) : s.begin.ddra = s.ddra := rfl
@[simp] theorem State.begin_t1c (s : State) : s.begin.t1c = s.t1c := rfl
@[simp] theorem State.begin_t1ll (s : State) : s.begin.t1ll = s.t1ll := rfl
@[simp] theorem State.begin_t1lh (s : State) : s.begin.t1lh = s.t1lh := rfl
@[simp] theorem State.begin_t2c (s : State) : s.begin.t2c = s.t2c := rfl
@[simp] theorem State.begin_t2ll (s : State) : s.begin.t2ll = s.t2ll := rfl
@[simp] theorem State.begin_sr (s : State) : s.begin.sr = s.sr := rfl
@[simp] theorem State.begin_acr (s : State) : s.begin.acr = s.acr := rfl
@[simp] theorem State.begin_pcr (s : State) : s.begin.pcr = s.pcr := rfl
@[simp] theorem State.begin_ifr (s : State) : s.begin.ifr = s.ifr := rfl
@[simp] theorem State.begin_ier (s : State) : s.begin.ier = s.ier := rfl
@[simp] theorem State.begin_ila (s : State) : s.begin.ila = s.ila := rfl
@[simp] theorem State.begin_ilb (s : State) : s.begin.ilb = s.ilb := rfl
@[simp] theorem State.begin_t1Run (s : State) : s.begin.t1Run = s.t1Run := rfl
@[simp] theorem State.begin_t1Fired (s : State) : s.begin.t1Fired = s.t1Fired := rfl
@[simp] theorem State.begin_t1Pend (s : State) : s.begin.t1Pend = s.t1Pend := rfl
@[simp] theorem State.begin_t1Out (s : State) : s.begin.t1Out = s.t1Out := rfl
@[simp] theorem State.begin_t2Run (s : State) : s.begin.t2Run = s.t2Run := rfl
@[simp] theorem State.begin_t2Pend (s : State) : s.begin.t2Pend = s.t2Pend := rfl
@[simp] theorem State.begin_srCount (s : State) : s.begin.srCount = s.srCount := rfl
@[simp] theorem State.begin_srPhase (s : State) : s.begin.srPhase = s.srPhase := rfl
@[simp] theorem State.begin_ca2 (s : State) : s.begin.ca2 = s.ca2 := rfl
@[simp] theorem State.begin_cb2 (s : State) : s.begin.cb2 = s.cb2 := rfl
@[simp] theorem State.begin_events (s : State) : s.begin.events = [] := rfl
@[simp] theorem State.begin_result (s : State) : s.begin.result = .none := rfl
@[simp] theorem State.begin_paIn (s : State) : s.begin.paIn = s.paIn := rfl
@[simp] theorem State.begin_pbIn (s : State) : s.begin.pbIn = s.pbIn := rfl
@[simp] theorem State.begin_pinFeed (s : State) : s.begin.pinFeed = s.pinFeed := rfl
@[simp] theorem State.begin_stream (s : State) : s.begin.stream = s.stream := rfl
@[simp] theorem State.begin_draws (s : State) : s.begin.draws = s.draws := rfl

@[simp] theorem State.emit_orb (s : State) (e : Event) : (s.emit e).orb = s.orb := rfl
@[simp] theorem State.emit_ora (s : State) (e : Event) : (s.emit e).ora = s.ora := rfl
@[simp] theorem State.emit_ddrb (s : State) (e : Event) : (s.emit e).ddrb = s.ddrb := rfl
@[simp] theorem State.emit_ddra (s : State) (e : Event) : (s.emit e).ddra = s.ddra := rfl
@[simp] theorem State.emit_t1c (s : State) (e : Event) : (s.emit e).t1c = s.t1c := rfl
@[simp] theorem State.emit_t1ll (s : State) (e : Event) : (s.emit e).t1ll = s.t1ll := rfl
@[simp] theorem State.emit_t1lh (s : State) (e : Event) : (s.emit e).t1lh = s.t1lh := rfl
@[simp] theorem State.emit_t2c (s : State) (e : Event) : (s.emit e).t2c = s.t2c := rfl
@[simp] theorem State.emit_t2ll (s : State) (e : Event) : (s.emit e).t2ll = s.t2ll := rfl
@[simp] theorem State.emit_sr (s : State) (e : Event) : (s.emit e).sr = s.sr := rfl
@[simp] theorem State.emit_acr (s : State) (e : Event) : (s.emit e).acr = s.acr := rfl
@[simp] theorem State.emit_pcr (s : State) (e : Event) : (s.emit e).pcr = s.pcr := rfl
@[simp] theorem State.emit_ifr (s : State) (e : Event) : (s.emit e).ifr = s.ifr := rfl
@[simp] theorem State.emit_ier (s : State) (e : Event) : (s.emit e).ier = s.ier := rfl
@[simp] theorem State.emit_ila (s : State) (e : Event) : (s.emit e).ila = s.ila := rfl
@[simp] theorem State.emit_ilb (s : State) (e : Event) : (s.emit e).ilb = s.ilb := rfl
@[simp] theorem State.emit_t1Run (s : State) (e : Event) : (s.emit e).t1Run = s.t1Run := rfl
@[simp] theorem State.emit_t1Fired (s : State) (e : Event) : (s.emit e).t1Fired = s.t1Fired := rfl
@[simp] theorem State.emit_t1Pend (s : State) (e : Event) : (s.emit e).t1Pend = s.t1Pend := rfl
@[simp] theorem State.emit_t1Out (s : State) (e : Event) : (s.emit e).t1Out = s.t1Out := rfl
@[simp] theorem State.emit_t2Run (s : State) (e : Event) : (s.emit e).t2Run = s.t2Run := rfl
@[simp] theorem State.emit_t2Pend (s : State) (e : Event) : (s.emit e).t2Pend = s.t2Pend := rfl
@[simp] theorem State.emit_srCount (s : State) (e : Event) : (s.emit e).srCount = s.srCount := rfl
@[simp] theorem State.emit_srPhase (s : State) (e : Event) : (s.emit e).srPhase = s.srPhase := rfl
@[simp] theorem State.emit_ca2 (s : State) (e : Event) : (s.emit e).ca2 = s.ca2 := rfl
@[simp] theorem State.emit_cb2 (s : State) (e : Event) : (s.emit e).cb2 = s.cb2 := rfl
@[simp] theorem State.emit_events (s : State) (e : Event) : (s.emit e).events = s.events ++ [e] := rfl
@[simp] theorem State.emit_result (s : State) (e : Event) : (s.emit e).result = s.result := rfl
@[simp] theorem State.emit_paIn (s : State) (e : Event) : (s.emit e).paIn = s.paIn := rfl
@[simp] theorem State.emit_pbIn (s : State) (e : Event) : (s.emit e).pbIn = s.pbIn := rfl
@[simp] theorem State.emit_pinFeed (s : State) (e : Event) : (s.emit e).pinFeed = s.pinFeed := rfl
@[simp] theorem State.emit_stream (s : State) (e : Event) : (s.emit e).stream = s.stream := rfl
@[simp] theorem State.emit_draws (s : State) (e : Event) : (s.emit e).draws = s.draws := rfl

@[simp] theorem State.returnByte_orb (s : State) (v : Byte) : (s.returnByte v).orb = s.orb := rfl
@[simp] theorem State.returnByte_ora (s : State) (v : Byte) : (s.returnByte v).ora = s.ora := rfl
@[simp] theorem State.returnByte_ddrb (s : State) (v : Byte) : (s.returnByte v).ddrb = s.ddrb := rfl
@[simp] theorem State.returnByte_ddra (s : State) (v : Byte) : (s.returnByte v).ddra = s.ddra := rfl
@[simp] theorem State.returnByte_t1c (s : State) (v : Byte) : (s.returnByte v).t1c = s.t1c := rfl
@[simp] theorem State.returnByte_t1ll (s : State) (v : Byte) : (s.returnByte v).t1ll = s.t1ll := rfl
@[simp] theorem State.returnByte_t1lh (s : State) (v : Byte) : (s.returnByte v).t1lh = s.t1lh := rfl
@[simp] theorem State.returnByte_t2c (s : State) (v : Byte) : (s.returnByte v).t2c = s.t2c := rfl
@[simp] theorem State.returnByte_t2ll (s : State) (v : Byte) : (s.returnByte v).t2ll = s.t2ll := rfl
@[simp] theorem State.returnByte_sr (s : State) (v : Byte) : (s.returnByte v).sr = s.sr := rfl
@[simp] theorem State.returnByte_acr (s : State) (v : Byte) : (s.returnByte v).acr = s.acr := rfl
@[simp] theorem State.returnByte_pcr (s : State) (v : Byte) : (s.returnByte v).pcr = s.pcr := rfl
@[simp] theorem State.returnByte_ifr (s : State) (v : Byte) : (s.returnByte v).ifr = s.ifr := rfl
@[simp] theorem State.returnByte_ier (s : State) (v : Byte) : (s.returnByte v).ier = s.ier := rfl
@[simp] theorem State.returnByte_ila (s : State) (v : Byte) : (s.returnByte v).ila = s.ila := rfl
@[simp] theorem State.returnByte_ilb (s : State) (v : Byte) : (s.returnByte v).ilb = s.ilb := rfl
@[simp] theorem State.returnByte_t1Run (s : State) (v : Byte) : (s.returnByte v).t1Run = s.t1Run := rfl
@[simp] theorem State.returnByte_t1Fired (s : State) (v : Byte) : (s.returnByte v).t1Fired = s.t1Fired := rfl
@[simp] theorem State.returnByte_t1Pend (s : State) (v : Byte) : (s.returnByte v).t1Pend = s.t1Pend := rfl
@[simp] theorem State.returnByte_t1Out (s : State) (v : Byte) : (s.returnByte v).t1Out = s.t1Out := rfl
@[simp] theorem State.returnByte_t2Run (s : State) (v : Byte) : (s.returnByte v).t2Run = s.t2Run := rfl
@[simp] theorem State.returnByte_t2Pend (s : State) (v : Byte) : (s.returnByte v).t2Pend = s.t2Pend := rfl
@[simp] theorem State.returnByte_srCount (s : State) (v : Byte) : (s.returnByte v).srCount = s.srCount := rfl
@[simp] theorem State.returnByte_srPhase (s : State) (v : Byte) : (s.returnByte v).srPhase = s.srPhase := rfl
@[simp] theorem State.returnByte_ca2 (s : State) (v : Byte) : (s.returnByte v).ca2 = s.ca2 := rfl
@[simp] theorem State.returnByte_cb2 (s : State) (v : Byte) : (s.returnByte v).cb2 = s.cb2 := rfl
@[simp] theorem State.returnByte_events (s : State) (v : Byte) : (s.returnByte v).events = s.events := rfl
@[simp] theorem State.returnByte_result (s : State) (v : Byte) : (s.returnByte v).result = .byte v := rfl
@[simp] theorem State.returnByte_paIn (s : State) (v : Byte) : (s.returnByte v).paIn = s.paIn := rfl
@[simp] theorem State.returnByte_pbIn (s : State) (v : Byte) : (s.returnByte v).pbIn = s.pbIn := rfl
@[simp] theorem State.returnByte_pinFeed (s : State) (v : Byte) : (s.returnByte v).pinFeed = s.pinFeed := rfl
@[simp] theorem State.returnByte_stream (s : State) (v : Byte) : (s.returnByte v).stream = s.stream := rfl
@[simp] theorem State.returnByte_draws (s : State) (v : Byte) : (s.returnByte v).draws = s.draws := rfl

@[simp] theorem State.returnOk_orb (s : State) : s.returnOk.orb = s.orb := rfl
@[simp] theorem State.returnOk_ora (s : State) : s.returnOk.ora = s.ora := rfl
@[simp] theorem State.returnOk_ddrb (s : State) : s.returnOk.ddrb = s.ddrb := rfl
@[simp] theorem State.returnOk_ddra (s : State) : s.returnOk.ddra = s.ddra := rfl
@[simp] theorem State.returnOk_t1c (s : State) : s.returnOk.t1c = s.t1c := rfl
@[simp] theorem State.returnOk_t1ll (s : State) : s.returnOk.t1ll = s.t1ll := rfl
@[simp] theorem State.returnOk_t1lh (s : State) : s.returnOk.t1lh = s.t1lh := rfl
@[simp] theorem State.returnOk_t2c (s : State) : s.returnOk.t2c = s.t2c := rfl
@[simp] theorem State.returnOk_t2ll (s : State) : s.returnOk.t2ll = s.t2ll := rfl
@[simp] theorem State.returnOk_sr (s : State) : s.returnOk.sr = s.sr := rfl
@[simp] theorem State.returnOk_acr (s : State) : s.returnOk.acr = s.acr := rfl
@[simp] theorem State.returnOk_pcr (s : State) : s.returnOk.pcr = s.pcr := rfl
@[simp] theorem State.returnOk_ifr (s : State) : s.returnOk.ifr = s.ifr := rfl
@[simp] theorem State.returnOk_ier (s : State) : s.returnOk.ier = s.ier := rfl
@[simp] theorem State.returnOk_ila (s : State) : s.returnOk.ila = s.ila := rfl
@[simp] theorem State.returnOk_ilb (s : State) : s.returnOk.ilb = s.ilb := rfl
@[simp] theorem State.returnOk_t1Run (s : State) : s.returnOk.t1Run = s.t1Run := rfl
@[simp] theorem State.returnOk_t1Fired (s : State) : s.returnOk.t1Fired = s.t1Fired := rfl
@[simp] theorem State.returnOk_t1Pend (s : State) : s.returnOk.t1Pend = s.t1Pend := rfl
@[simp] theorem State.returnOk_t1Out (s : State) : s.returnOk.t1Out = s.t1Out := rfl
@[simp] theorem State.returnOk_t2Run (s : State) : s.returnOk.t2Run = s.t2Run := rfl
@[simp] theorem State.returnOk_t2Pend (s : State) : s.returnOk.t2Pend = s.t2Pend := rfl
@[simp] theorem State.returnOk_srCount (s : State) : s.returnOk.srCount = s.srCount := rfl
@[simp] theorem State.returnOk_srPhase (s : State) : s.returnOk.srPhase = s.srPhase := rfl
@[simp] theorem State.returnOk_ca2 (s : State) : s.returnOk.ca2 = s.ca2 := rfl
@[simp] theorem State.returnOk_cb2 (s : State) : s.returnOk.cb2 = s.cb2 := rfl
@[simp] theorem State.returnOk_events (s : State) : s.returnOk.events = s.events := rfl
@[simp] theorem State.returnOk_result (s : State) : s.returnOk.result = .ok := rfl
@[simp] theorem State.returnOk_paIn (s : State) : s.returnOk.paIn = s.paIn := rfl
@[simp] theorem State.returnOk_pbIn (s : State) : s.returnOk.pbIn = s.pbIn := rfl
@[simp] theorem State.returnOk_pinFeed (s : State) : s.returnOk.pinFeed = s.pinFeed := rfl
@[simp] theorem State.returnOk_stream (s : State) : s.returnOk.stream = s.stream := rfl
@[simp] theorem State.returnOk_draws (s : State) : s.returnOk.draws = s.draws := rfl

@[simp] theorem State.formatError_orb (s : State) : s.formatError.orb = s.orb := rfl
@[simp] theorem State.formatError_ora (s : State) : s.formatError.ora = s.ora := rfl
@[simp] theorem State.formatError_ddrb (s : State) : s.formatError.ddrb = s.ddrb := rfl
@[simp] theorem State.formatError_ddra (s : State) : s.formatError.ddra = s.ddra := rfl
@[simp] theorem State.formatError_t1c (s : State) : s.formatError.t1c = s.t1c := rfl
@[simp] theorem State.formatError_t1ll (s : State) : s.formatError.t1ll = s.t1ll := rfl
@[simp] theorem State.formatError_t1lh (s : State) : s.formatError.t1lh = s.t1lh := rfl
@[simp] theorem State.formatError_t2c (s : State) : s.formatError.t2c = s.t2c := rfl
@[simp] theorem State.formatError_t2ll (s : State) : s.formatError.t2ll = s.t2ll := rfl
@[simp] theorem State.formatError_sr (s : State) : s.formatError.sr = s.sr := rfl
@[simp] theorem State.formatError_acr (s : State) : s.formatError.acr = s.acr := rfl
@[simp] theorem State.formatError_pcr (s : State) : s.formatError.pcr = s.pcr := rfl
@[simp] theorem State.formatError_ifr (s : State) : s.formatError.ifr = s.ifr := rfl
@[simp] theorem State.formatError_ier (s : State) : s.formatError.ier = s.ier := rfl
@[simp] theorem State.formatError_ila (s : State) : s.formatError.ila = s.ila := rfl
@[simp] theorem State.formatError_ilb (s : State) : s.formatError.ilb = s.ilb := rfl
@[simp] theorem State.formatError_t1Run (s : State) : s.formatError.t1Run = s.t1Run := rfl
@[simp] theorem State.formatError_t1Fired (s : State) : s.formatError.t1Fired = s.t1Fired := rfl
@[simp] theorem State.formatError_t1Pend (s : State) : s.formatError.t1Pend = s.t1Pend := rfl
@[simp] theorem State.formatError_t1Out (s : State) : s.formatError.t1Out = s.t1Out := rfl
@[simp] theorem State.formatError_t2Run (s : State) : s.formatError.t2Run = s.t2Run := rfl
@[simp] theorem State.formatError_t2Pend (s : State) : s.formatError.t2Pend = s.t2Pend := rfl
@[simp] theorem State.formatError_srCount (s : State) : s.formatError.srCount = s.srCount := rfl
@[simp] theorem State.formatError_srPhase (s : State) : s.formatError.srPhase = s.srPhase := rfl
@[simp] theorem State.formatError_ca2 (s : State) : s.formatError.ca2 = s.ca2 := rfl
@[simp] theorem State.formatError_cb2 (s : State) : s.formatError.cb2 = s.cb2 := rfl
@[simp] theorem State.formatError_events (s : State) : s.formatError.events = [] := rfl
@[simp] theorem State.formatError_result (s : State) : s.formatError.result = .formatError := rfl
@[simp] theorem State.formatError_paIn (s : State) : s.formatError.paIn = s.paIn := rfl
@[simp] theorem State.formatError_pbIn (s : State) : s.formatError.pbIn = s.pbIn := rfl
@[simp] theorem State.formatError_pinFeed (s : State) : s.formatError.pinFeed = s.pinFeed := rfl
@[simp] theorem State.formatError_stream (s : State) : s.formatError.stream = s.stream := rfl
@[simp] theorem State.formatError_draws (s : State) : s.formatError.draws = s.draws := rfl

@[simp] theorem State.present_orb (s : State) (rest : List Byte) : (s.present rest).orb = s.orb := rfl
@[simp] theorem State.present_ora (s : State) (rest : List Byte) : (s.present rest).ora = s.ora := rfl
@[simp] theorem State.present_ddrb (s : State) (rest : List Byte) : (s.present rest).ddrb = s.ddrb := rfl
@[simp] theorem State.present_ddra (s : State) (rest : List Byte) : (s.present rest).ddra = s.ddra := rfl
@[simp] theorem State.present_t1c (s : State) (rest : List Byte) : (s.present rest).t1c = s.t1c := rfl
@[simp] theorem State.present_t1ll (s : State) (rest : List Byte) : (s.present rest).t1ll = s.t1ll := rfl
@[simp] theorem State.present_t1lh (s : State) (rest : List Byte) : (s.present rest).t1lh = s.t1lh := rfl
@[simp] theorem State.present_t2c (s : State) (rest : List Byte) : (s.present rest).t2c = s.t2c := rfl
@[simp] theorem State.present_t2ll (s : State) (rest : List Byte) : (s.present rest).t2ll = s.t2ll := rfl
@[simp] theorem State.present_sr (s : State) (rest : List Byte) : (s.present rest).sr = s.sr := rfl
@[simp] theorem State.present_acr (s : State) (rest : List Byte) : (s.present rest).acr = s.acr := rfl
@[simp] theorem State.present_pcr (s : State) (rest : List Byte) : (s.present rest).pcr = s.pcr := rfl
@[simp] theorem State.present_ifr (s : State) (rest : List Byte) : (s.present rest).ifr = s.ifr := rfl
@[simp] theorem State.present_ier (s : State) (rest : List Byte) : (s.present rest).ier = s.ier := rfl
@[simp] theorem State.present_ila (s : State) (rest : List Byte) : (s.present rest).ila = s.ila := rfl
@[simp] theorem State.present_ilb (s : State) (rest : List Byte) : (s.present rest).ilb = s.ilb := rfl
@[simp] theorem State.present_t1Run (s : State) (rest : List Byte) : (s.present rest).t1Run = s.t1Run := rfl
@[simp] theorem State.present_t1Fired (s : State) (rest : List Byte) : (s.present rest).t1Fired = s.t1Fired := rfl
@[simp] theorem State.present_t1Pend (s : State) (rest : List Byte) : (s.present rest).t1Pend = s.t1Pend := rfl
@[simp] theorem State.present_t1Out (s : State) (rest : List Byte) : (s.present rest).t1Out = s.t1Out := rfl
@[simp] theorem State.present_t2Run (s : State) (rest : List Byte) : (s.present rest).t2Run = s.t2Run := rfl
@[simp] theorem State.present_t2Pend (s : State) (rest : List Byte) : (s.present rest).t2Pend = s.t2Pend := rfl
@[simp] theorem State.present_srCount (s : State) (rest : List Byte) : (s.present rest).srCount = s.srCount := rfl
@[simp] theorem State.present_srPhase (s : State) (rest : List Byte) : (s.present rest).srPhase = s.srPhase := rfl
@[simp] theorem State.present_ca2 (s : State) (rest : List Byte) : (s.present rest).ca2 = s.ca2 := rfl
@[simp] theorem State.present_cb2 (s : State) (rest : List Byte) : (s.present rest).cb2 = s.cb2 := rfl
@[simp] theorem State.present_events (s : State) (rest : List Byte) : (s.present rest).events = s.events := rfl
@[simp] theorem State.present_result (s : State) (rest : List Byte) : (s.present rest).result = s.result := rfl
@[simp] theorem State.present_paIn (s : State) (rest : List Byte) : (s.present rest).paIn = s.nextPins.pa := rfl
@[simp] theorem State.present_pbIn (s : State) (rest : List Byte) : (s.present rest).pbIn = s.nextPins.pb := rfl
@[simp] theorem State.present_pinFeed (s : State) (rest : List Byte) : (s.present rest).pinFeed = s.pinFeed.tail := rfl
@[simp] theorem State.present_stream (s : State) (rest : List Byte) : (s.present rest).stream = rest := rfl
@[simp] theorem State.present_draws (s : State) (rest : List Byte) : (s.present rest).draws = s.draws := rfl

@[simp] theorem State.irqUpdate_orb (s : State) : s.irqUpdate.orb = s.orb := rfl
@[simp] theorem State.irqUpdate_ora (s : State) : s.irqUpdate.ora = s.ora := rfl
@[simp] theorem State.irqUpdate_ddrb (s : State) : s.irqUpdate.ddrb = s.ddrb := rfl
@[simp] theorem State.irqUpdate_ddra (s : State) : s.irqUpdate.ddra = s.ddra := rfl
@[simp] theorem State.irqUpdate_t1c (s : State) : s.irqUpdate.t1c = s.t1c := rfl
@[simp] theorem State.irqUpdate_t1ll (s : State) : s.irqUpdate.t1ll = s.t1ll := rfl
@[simp] theorem State.irqUpdate_t1lh (s : State) : s.irqUpdate.t1lh = s.t1lh := rfl
@[simp] theorem State.irqUpdate_t2c (s : State) : s.irqUpdate.t2c = s.t2c := rfl
@[simp] theorem State.irqUpdate_t2ll (s : State) : s.irqUpdate.t2ll = s.t2ll := rfl
@[simp] theorem State.irqUpdate_sr (s : State) : s.irqUpdate.sr = s.sr := rfl
@[simp] theorem State.irqUpdate_acr (s : State) : s.irqUpdate.acr = s.acr := rfl
@[simp] theorem State.irqUpdate_pcr (s : State) : s.irqUpdate.pcr = s.pcr := rfl
@[simp] theorem State.irqUpdate_ifr (s : State) : s.irqUpdate.ifr = recomputed s.ifr s.ier := rfl
@[simp] theorem State.irqUpdate_ier (s : State) : s.irqUpdate.ier = s.ier := rfl
@[simp] theorem State.irqUpdate_ila (s : State) : s.irqUpdate.ila = s.ila := rfl
@[simp] theorem State.irqUpdate_ilb (s : State) : s.irqUpdate.ilb = s.ilb := rfl
@[simp] theorem State.irqUpdate_t1Run (s : State) : s.irqUpdate.t1Run = s.t1Run := rfl
@[simp] theorem State.irqUpdate_t1Fired (s : State) : s.irqUpdate.t1Fired = s.t1Fired := rfl
@[simp] theorem State.irqUpdate_t1Pend (s : State) : s.irqUpdate.t1Pend = s.t1Pend := rfl
@[simp] theorem State.irqUpdate_t1Out (s : State) : s.irqUpdate.t1Out = s.t1Out := rfl
@[simp] theorem State.irqUpdate_t2Run (s : State) : s.irqUpdate.t2Run = s.t2Run := rfl
@[simp] theorem State.irqUpdate_t2Pend (s : State) : s.irqUpdate.t2Pend = s.t2Pend := rfl
@[simp] theorem State.irqUpdate_srCount (s : State) : s.irqUpdate.srCount = s.srCount := rfl
@[simp] theorem State.irqUpdate_srPhase (s : State) : s.irqUpdate.srPhase = s.srPhase := rfl
@[simp] theorem State.irqUpdate_ca2 (s : State) : s.irqUpdate.ca2 = s.ca2 := rfl
@[simp] theorem State.irqUpdate_cb2 (s : State) : s.irqUpdate.cb2 = s.cb2 := rfl
@[simp] theorem State.irqUpdate_events (s : State) : s.irqUpdate.events = s.events ++ [.irq (combinedFlag s.ifr s.ier)] := rfl
@[simp] theorem State.irqUpdate_result (s : State) : s.irqUpdate.result = s.result := rfl
@[simp] theorem State.irqUpdate_paIn (s : State) : s.irqUpdate.paIn = s.paIn := rfl
@[simp] theorem State.irqUpdate_pbIn (s : State) : s.irqUpdate.pbIn = s.pbIn := rfl
@[simp] theorem State.irqUpdate_pinFeed (s : State) : s.irqUpdate.pinFeed = s.pinFeed := rfl
@[simp] theorem State.irqUpdate_stream (s : State) : s.irqUpdate.stream = s.stream := rfl
@[simp] theorem State.irqUpdate_draws (s : State) : s.irqUpdate.draws = s.draws := rfl

@[simp] theorem State.ifrSet_orb (s : State) (k : Source) : (s.ifrSet k).orb = s.orb := rfl
@[simp] theorem State.ifrSet_ora (s : State) (k : Source) : (s.ifrSet k).ora = s.ora := rfl
@[simp] theorem State.ifrSet_ddrb (s : State) (k : Source) : (s.ifrSet k).ddrb = s.ddrb := rfl
@[simp] theorem State.ifrSet_ddra (s : State) (k : Source) : (s.ifrSet k).ddra = s.ddra := rfl
@[simp] theorem State.ifrSet_t1c (s : State) (k : Source) : (s.ifrSet k).t1c = s.t1c := rfl
@[simp] theorem State.ifrSet_t1ll (s : State) (k : Source) : (s.ifrSet k).t1ll = s.t1ll := rfl
@[simp] theorem State.ifrSet_t1lh (s : State) (k : Source) : (s.ifrSet k).t1lh = s.t1lh := rfl
@[simp] theorem State.ifrSet_t2c (s : State) (k : Source) : (s.ifrSet k).t2c = s.t2c := rfl
@[simp] theorem State.ifrSet_t2ll (s : State) (k : Source) : (s.ifrSet k).t2ll = s.t2ll := rfl
@[simp] theorem State.ifrSet_sr (s : State) (k : Source) : (s.ifrSet k).sr = s.sr := rfl
@[simp] theorem State.ifrSet_acr (s : State) (k : Source) : (s.ifrSet k).acr = s.acr := rfl
@[simp] theorem State.ifrSet_pcr (s : State) (k : Source) : (s.ifrSet k).pcr = s.pcr := rfl
@[simp] theorem State.ifrSet_ifr (s : State) (k : Source) : (s.ifrSet k).ifr = recomputed (withBit s.ifr (sourceBit k) true) s.ier := rfl
@[simp] theorem State.ifrSet_ier (s : State) (k : Source) : (s.ifrSet k).ier = s.ier := rfl
@[simp] theorem State.ifrSet_ila (s : State) (k : Source) : (s.ifrSet k).ila = s.ila := rfl
@[simp] theorem State.ifrSet_ilb (s : State) (k : Source) : (s.ifrSet k).ilb = s.ilb := rfl
@[simp] theorem State.ifrSet_t1Run (s : State) (k : Source) : (s.ifrSet k).t1Run = s.t1Run := rfl
@[simp] theorem State.ifrSet_t1Fired (s : State) (k : Source) : (s.ifrSet k).t1Fired = s.t1Fired := rfl
@[simp] theorem State.ifrSet_t1Pend (s : State) (k : Source) : (s.ifrSet k).t1Pend = s.t1Pend := rfl
@[simp] theorem State.ifrSet_t1Out (s : State) (k : Source) : (s.ifrSet k).t1Out = s.t1Out := rfl
@[simp] theorem State.ifrSet_t2Run (s : State) (k : Source) : (s.ifrSet k).t2Run = s.t2Run := rfl
@[simp] theorem State.ifrSet_t2Pend (s : State) (k : Source) : (s.ifrSet k).t2Pend = s.t2Pend := rfl
@[simp] theorem State.ifrSet_srCount (s : State) (k : Source) : (s.ifrSet k).srCount = s.srCount := rfl
@[simp] theorem State.ifrSet_srPhase (s : State) (k : Source) : (s.ifrSet k).srPhase = s.srPhase := rfl
@[simp] theorem State.ifrSet_ca2 (s : State) (k : Source) : (s.ifrSet k).ca2 = s.ca2 := rfl
@[simp] theorem State.ifrSet_cb2 (s : State) (k : Source) : (s.ifrSet k).cb2 = s.cb2 := rfl
@[simp] theorem State.ifrSet_events (s : State) (k : Source) : (s.ifrSet k).events = s.events ++ [.irq (combinedFlag (withBit s.ifr (sourceBit k) true) s.ier)] := rfl
@[simp] theorem State.ifrSet_result (s : State) (k : Source) : (s.ifrSet k).result = s.result := rfl
@[simp] theorem State.ifrSet_paIn (s : State) (k : Source) : (s.ifrSet k).paIn = s.paIn := rfl
@[simp] theorem State.ifrSet_pbIn (s : State) (k : Source) : (s.ifrSet k).pbIn = s.pbIn := rfl
@[simp] theorem State.ifrSet_pinFeed (s : State) (k : Source) : (s.ifrSet k).pinFeed = s.pinFeed := rfl
@[simp] theorem State.ifrSet_stream (s : State) (k : Source) : (s.ifrSet k).stream = s.stream := rfl
@[simp] theorem State.ifrSet_draws (s : State) (k : Source) : (s.ifrSet k).draws = s.draws := rfl

@[simp] theorem State.ifrClear_orb (s : State) (m : Byte) : (s.ifrClear m).orb = s.orb := rfl
@[simp] theorem State.ifrClear_ora (s : State) (m : Byte) : (s.ifrClear m).ora = s.ora := rfl
@[simp] theorem State.ifrClear_ddrb (s : State) (m : Byte) : (s.ifrClear m).ddrb = s.ddrb := rfl
@[simp] theorem State.ifrClear_ddra (s : State) (m : Byte) : (s.ifrClear m).ddra = s.ddra := rfl
@[simp] theorem State.ifrClear_t1c (s : State) (m : Byte) : (s.ifrClear m).t1c = s.t1c := rfl
@[simp] theorem State.ifrClear_t1ll (s : State) (m : Byte) : (s.ifrClear m).t1ll = s.t1ll := rfl
@[simp] theorem State.ifrClear_t1lh (s : State) (m : Byte) : (s.ifrClear m).t1lh = s.t1lh := rfl
@[simp] theorem State.ifrClear_t2c (s : State) (m : Byte) : (s.ifrClear m).t2c = s.t2c := rfl
@[simp] theorem State.ifrClear_t2ll (s : State) (m : Byte) : (s.ifrClear m).t2ll = s.t2ll := rfl
@[simp] theorem State.ifrClear_sr (s : State) (m : Byte) : (s.ifrClear m).sr = s.sr := rfl
@[simp] theorem State.ifrClear_acr (s : State) (m : Byte) : (s.ifrClear m).acr = s.acr := rfl
@[simp] theorem State.ifrClear_pcr (s : State) (m : Byte) : (s.ifrClear m).pcr = s.pcr := rfl
@[simp] theorem State.ifrClear_ifr (s : State) (m : Byte) : (s.ifrClear m).ifr = recomputed (s.ifr &&& ~~~(m &&& 0x7F#8)) s.ier := rfl
@[simp] theorem State.ifrClear_ier (s : State) (m : Byte) : (s.ifrClear m).ier = s.ier := rfl
@[simp] theorem State.ifrClear_ila (s : State) (m : Byte) : (s.ifrClear m).ila = s.ila := rfl
@[simp] theorem State.ifrClear_ilb (s : State) (m : Byte) : (s.ifrClear m).ilb = s.ilb := rfl
@[simp] theorem State.ifrClear_t1Run (s : State) (m : Byte) : (s.ifrClear m).t1Run = s.t1Run := rfl
@[simp] theorem State.ifrClear_t1Fired (s : State) (m : Byte) : (s.ifrClear m).t1Fired = s.t1Fired := rfl
@[simp] theorem State.ifrClear_t1Pend (s : State) (m : Byte) : (s.ifrClear m).t1Pend = s.t1Pend := rfl
@[simp] theorem State.ifrClear_t1Out (s : State) (m : Byte) : (s.ifrClear m).t1Out = s.t1Out := rfl
@[simp] theorem State.ifrClear_t2Run (s : State) (m : Byte) : (s.ifrClear m).t2Run = s.t2Run := rfl
@[simp] theorem State.ifrClear_t2Pend (s : State) (m : Byte) : (s.ifrClear m).t2Pend = s.t2Pend := rfl
@[simp] theorem State.ifrClear_srCount (s : State) (m : Byte) : (s.ifrClear m).srCount = s.srCount := rfl
@[simp] theorem State.ifrClear_srPhase (s : State) (m : Byte) : (s.ifrClear m).srPhase = s.srPhase := rfl
@[simp] theorem State.ifrClear_ca2 (s : State) (m : Byte) : (s.ifrClear m).ca2 = s.ca2 := rfl
@[simp] theorem State.ifrClear_cb2 (s : State) (m : Byte) : (s.ifrClear m).cb2 = s.cb2 := rfl
@[simp] theorem State.ifrClear_events (s : State) (m : Byte) : (s.ifrClear m).events = s.events ++ [.irq (combinedFlag (s.ifr &&& ~~~(m &&& 0x7F#8)) s.ier)] := rfl
@[simp] theorem State.ifrClear_result (s : State) (m : Byte) : (s.ifrClear m).result = s.result := rfl
@[simp] theorem State.ifrClear_paIn (s : State) (m : Byte) : (s.ifrClear m).paIn = s.paIn := rfl
@[simp] theorem State.ifrClear_pbIn (s : State) (m : Byte) : (s.ifrClear m).pbIn = s.pbIn := rfl
@[simp] theorem State.ifrClear_pinFeed (s : State) (m : Byte) : (s.ifrClear m).pinFeed = s.pinFeed := rfl
@[simp] theorem State.ifrClear_stream (s : State) (m : Byte) : (s.ifrClear m).stream = s.stream := rfl
@[simp] theorem State.ifrClear_draws (s : State) (m : Byte) : (s.ifrClear m).draws = s.draws := rfl

@[simp] theorem State.srRestart_orb (s : State) : s.srRestart.orb = s.orb := rfl
@[simp] theorem State.srRestart_ora (s : State) : s.srRestart.ora = s.ora := rfl
@[simp] theorem State.srRestart_ddrb (s : State) : s.srRestart.ddrb = s.ddrb := rfl
@[simp] theorem State.srRestart_ddra (s : State) : s.srRestart.ddra = s.ddra := rfl
@[simp] theorem State.srRestart_t1c (s : State) : s.srRestart.t1c = s.t1c := rfl
@[simp] theorem State.srRestart_t1ll (s : State) : s.srRestart.t1ll = s.t1ll := rfl
@[simp] theorem State.srRestart_t1lh (s : State) : s.srRestart.t1lh = s.t1lh := rfl
@[simp] theorem State.srRestart_t2c (s : State) : s.srRestart.t2c = s.t2c := rfl
@[simp] theorem State.srRestart_t2ll (s : State) : s.srRestart.t2ll = s.t2ll := rfl
@[simp] theorem State.srRestart_sr (s : State) : s.srRestart.sr = s.sr := rfl
@[simp] theorem State.srRestart_acr (s : State) : s.srRestart.acr = s.acr := rfl
@[simp] theorem State.srRestart_pcr (s : State) : s.srRestart.pcr = s.pcr := rfl
@[simp] theorem State.srRestart_ifr (s : State) : s.srRestart.ifr = s.ifr := rfl
@[simp] theorem State.srRestart_ier (s : State) : s.srRestart.ier = s.ier := rfl
@[simp] theorem State.srRestart_ila (s : State) : s.srRestart.ila = s.ila := rfl
@[simp] theorem State.srRestart_ilb (s : State) : s.srRestart.ilb = s.ilb := rfl
@[simp] theorem State.srRestart_t1Run (s : State) : s.srRestart.t1Run = s.t1Run := rfl
@[simp] theorem State.srRestart_t1Fired (s : State) : s.srRestart.t1Fired = s.t1Fired := rfl
@[simp] theorem State.srRestart_t1Pend (s : State) : s.srRestart.t1Pend = s.t1Pend := rfl
@[simp] theorem State.srRestart_t1Out (s : State) : s.srRestart.t1Out = s.t1Out := rfl
@[simp] theorem State.srRestart_t2Run (s : State) : s.srRestart.t2Run = s.t2Run := rfl
@[simp] theorem State.srRestart_t2Pend (s : State) : s.srRestart.t2Pend = s.t2Pend := rfl
@[simp] theorem State.srRestart_srCount (s : State) : s.srRestart.srCount = 0 := rfl
@[simp] theorem State.srRestart_srPhase (s : State) : s.srRestart.srPhase = false := rfl
@[simp] theorem State.srRestart_ca2 (s : State) : s.srRestart.ca2 = s.ca2 := rfl
@[simp] theorem State.srRestart_cb2 (s : State) : s.srRestart.cb2 = s.cb2 := rfl
@[simp] theorem State.srRestart_events (s : State) : s.srRestart.events = s.events := rfl
@[simp] theorem State.srRestart_result (s : State) : s.srRestart.result = s.result := rfl
@[simp] theorem State.srRestart_paIn (s : State) : s.srRestart.paIn = s.paIn := rfl
@[simp] theorem State.srRestart_pbIn (s : State) : s.srRestart.pbIn = s.pbIn := rfl
@[simp] theorem State.srRestart_pinFeed (s : State) : s.srRestart.pinFeed = s.pinFeed := rfl
@[simp] theorem State.srRestart_stream (s : State) : s.srRestart.stream = s.stream := rfl
@[simp] theorem State.srRestart_draws (s : State) : s.srRestart.draws = s.draws := rfl

@[simp] theorem State.srHalt_orb (s : State) : s.srHalt.orb = s.orb := rfl
@[simp] theorem State.srHalt_ora (s : State) : s.srHalt.ora = s.ora := rfl
@[simp] theorem State.srHalt_ddrb (s : State) : s.srHalt.ddrb = s.ddrb := rfl
@[simp] theorem State.srHalt_ddra (s : State) : s.srHalt.ddra = s.ddra := rfl
@[simp] theorem State.srHalt_t1c (s : State) : s.srHalt.t1c = s.t1c := rfl
@[simp] theorem State.srHalt_t1ll (s : State) : s.srHalt.t1ll = s.t1ll := rfl
@[simp] theorem State.srHalt_t1lh (s : State) : s.srHalt.t1lh = s.t1lh := rfl
@[simp] theorem State.srHalt_t2c (s : State) : s.srHalt.t2c = s.t2c := rfl
@[simp] theorem State.srHalt_t2ll (s : State) : s.srHalt.t2ll = s.t2ll := rfl
@[simp] theorem State.srHalt_sr (s : State) : s.srHalt.sr = s.sr := rfl
@[simp] theorem State.srHalt_acr (s : State) : s.srHalt.acr = s.acr := rfl
@[simp] theorem State.srHalt_pcr (s : State) : s.srHalt.pcr = s.pcr := rfl
@[simp] theorem State.srHalt_ifr (s : State) : s.srHalt.ifr = s.ifr := rfl
@[simp] theorem State.srHalt_ier (s : State) : s.srHalt.ier = s.ier := rfl
@[simp] theorem State.srHalt_ila (s : State) : s.srHalt.ila = s.ila := rfl
@[simp] theorem State.srHalt_ilb (s : State) : s.srHalt.ilb = s.ilb := rfl
@[simp] theorem State.srHalt_t1Run (s : State) : s.srHalt.t1Run = s.t1Run := rfl
@[simp] theorem State.srHalt_t1Fired (s : State) : s.srHalt.t1Fired = s.t1Fired := rfl
@[simp] theorem State.srHalt_t1Pend (s : State) : s.srHalt.t1Pend = s.t1Pend := rfl
@[simp] theorem State.srHalt_t1Out (s : State) : s.srHalt.t1Out = s.t1Out := rfl
@[simp] theorem State.srHalt_t2Run (s : State) : s.srHalt.t2Run = s.t2Run := rfl
@[simp] theorem State.srHalt_t2Pend (s : State) : s.srHalt.t2Pend = s.t2Pend := rfl
@[simp] theorem State.srHalt_srCount (s : State) : s.srHalt.srCount = 8 := rfl
@[simp] theorem State.srHalt_srPhase (s : State) : s.srHalt.srPhase = false := rfl
@[simp] theorem State.srHalt_ca2 (s : State) : s.srHalt.ca2 = s.ca2 := rfl
@[simp] theorem State.srHalt_cb2 (s : State) : s.srHalt.cb2 = s.cb2 := rfl
@[simp] theorem State.srHalt_events (s : State) : s.srHalt.events = s.events := rfl
@[simp] theorem State.srHalt_result (s : State) : s.srHalt.result = s.result := rfl
@[simp] theorem State.srHalt_paIn (s : State) : s.srHalt.paIn = s.paIn := rfl
@[simp] theorem State.srHalt_pbIn (s : State) : s.srHalt.pbIn = s.pbIn := rfl
@[simp] theorem State.srHalt_pinFeed (s : State) : s.srHalt.pinFeed = s.pinFeed := rfl
@[simp] theorem State.srHalt_stream (s : State) : s.srHalt.stream = s.stream := rfl
@[simp] theorem State.srHalt_draws (s : State) : s.srHalt.draws = s.draws := rfl

@[simp] theorem State.hsAccessA_orb (s : State) : s.hsAccessA.orb = s.orb := rfl
@[simp] theorem State.hsAccessA_ora (s : State) : s.hsAccessA.ora = s.ora := rfl
@[simp] theorem State.hsAccessA_ddrb (s : State) : s.hsAccessA.ddrb = s.ddrb := rfl
@[simp] theorem State.hsAccessA_ddra (s : State) : s.hsAccessA.ddra = s.ddra := rfl
@[simp] theorem State.hsAccessA_t1c (s : State) : s.hsAccessA.t1c = s.t1c := rfl
@[simp] theorem State.hsAccessA_t1ll (s : State) : s.hsAccessA.t1ll = s.t1ll := rfl
@[simp] theorem State.hsAccessA_t1lh (s : State) : s.hsAccessA.t1lh = s.t1lh := rfl
@[simp] theorem State.hsAccessA_t2c (s : State) : s.hsAccessA.t2c = s.t2c := rfl
@[simp] theorem State.hsAccessA_t2ll (s : State) : s.hsAccessA.t2ll = s.t2ll := rfl
@[simp] theorem State.hsAccessA_sr (s : State) : s.hsAccessA.sr = s.sr := rfl
@[simp] theorem State.hsAccessA_acr (s : State) : s.hsAccessA.acr = s.acr := rfl
@[simp] theorem State.hsAccessA_pcr (s : State) : s.hsAccessA.pcr = s.pcr := rfl
@[simp] theorem State.hsAccessA_ifr (s : State) : s.hsAccessA.ifr = s.ifr := rfl
@[simp] theorem State.hsAccessA_ier (s : State) : s.hsAccessA.ier = s.ier := rfl
@[simp] theorem State.hsAccessA_ila (s : State) : s.hsAccessA.ila = s.ila := rfl
@[simp] theorem State.hsAccessA_ilb (s : State) : s.hsAccessA.ilb = s.ilb := rfl
@[simp] theorem State.hsAccessA_t1Run (s : State) : s.hsAccessA.t1Run = s.t1Run := rfl
@[simp] theorem State.hsAccessA_t1Fired (s : State) : s.hsAccessA.t1Fired = s.t1Fired := rfl
@[simp] theorem State.hsAccessA_t1Pend (s : State) : s.hsAccessA.t1Pend = s.t1Pend := rfl
@[simp] theorem State.hsAccessA_t1Out (s : State) : s.hsAccessA.t1Out = s.t1Out := rfl
@[simp] theorem State.hsAccessA_t2Run (s : State) : s.hsAccessA.t2Run = s.t2Run := rfl
@[simp] theorem State.hsAccessA_t2Pend (s : State) : s.hsAccessA.t2Pend = s.t2Pend := rfl
@[simp] theorem State.hsAccessA_srCount (s : State) : s.hsAccessA.srCount = s.srCount := rfl
@[simp] theorem State.hsAccessA_srPhase (s : State) : s.hsAccessA.srPhase = s.srPhase := rfl
@[simp] theorem State.hsAccessA_ca2 (s : State) : s.hsAccessA.ca2 = (accessLevels (ca2Mode s.pcr) s.ca2).getLastD s.ca2 := rfl
@[simp] theorem State.hsAccessA_cb2 (s : State) : s.hsAccessA.cb2 = s.cb2 := rfl
@[simp] theorem State.hsAccessA_events (s : State) : s.hsAccessA.events = s.events ++ (accessLevels (ca2Mode s.pcr) s.ca2).map .ca2 := rfl
@[simp] theorem State.hsAccessA_result (s : State) : s.hsAccessA.result = s.result := rfl
@[simp] theorem State.hsAccessA_paIn (s : State) : s.hsAccessA.paIn = s.paIn := rfl
@[simp] theorem State.hsAccessA_pbIn (s : State) : s.hsAccessA.pbIn = s.pbIn := rfl
@[simp] theorem State.hsAccessA_pinFeed (s : State) : s.hsAccessA.pinFeed = s.pinFeed := rfl
@[simp] theorem State.hsAccessA_stream (s : State) : s.hsAccessA.stream = s.stream := rfl
@[simp] theorem State.hsAccessA_draws (s : State) : s.hsAccessA.draws = s.draws := rfl

@[simp] theorem State.hsAccessB_orb (s : State) : s.hsAccessB.orb = s.orb := rfl
@[simp] theorem State.hsAccessB_ora (s : State) : s.hsAccessB.ora = s.ora := rfl
@[simp] theorem State.hsAccessB_ddrb (s : State) : s.hsAccessB.ddrb = s.ddrb := rfl
@[simp] theorem State.hsAccessB_ddra (s : State) : s.hsAccessB.ddra = s.ddra := rfl
@[simp] theorem State.hsAccessB_t1c (s : State) : s.hsAccessB.t1c = s.t1c := rfl
@[simp] theorem State.hsAccessB_t1ll (s : State) : s.hsAccessB.t1ll = s.t1ll := rfl
@[simp] theorem State.hsAccessB_t1lh (s : State) : s.hsAccessB.t1lh = s.t1lh := rfl
@[simp] theorem State.hsAccessB_t2c (s : State) : s.hsAccessB.t2c = s.t2c := rfl
@[simp] theorem State.hsAccessB_t2ll (s : State) : s.hsAccessB.t2ll = s.t2ll := rfl
@[simp] theorem State.hsAccessB_sr (s : State) : s.hsAccessB.sr = s.sr := rfl
@[simp] theorem State.hsAccessB_acr (s : State) : s.hsAccessB.acr = s.acr := rfl
@[simp] theorem State.hsAccessB_pcr (s : State) : s.hsAccessB.pcr = s.pcr := rfl
@[simp] theorem State.hsAccessB_ifr (s : State) : s.hsAccessB.ifr = s.ifr := rfl
@[simp] theorem State.hsAccessB_ier (s : State) : s.hsAccessB.ier = s.ier := rfl
@[simp] theorem State.hsAccessB_ila (s : State) : s.hsAccessB.ila = s.ila := rfl
@[simp] theorem State.hsAccessB_ilb (s : State) : s.hsAccessB.ilb = s.ilb := rfl
@[simp] theorem State.hsAccessB_t1Run (s : State) : s.hsAccessB.t1Run = s.t1Run := rfl
@[simp] theorem State.hsAccessB_t1Fired (s : State) : s.hsAccessB.t1Fired = s.t1Fired := rfl
@[simp] theorem State.hsAccessB_t1Pend (s : State) : s.hsAccessB.t1Pend = s.t1Pend := rfl
@[simp] theorem State.hsAccessB_t1Out (s : State) : s.hsAccessB.t1Out = s.t1Out := rfl
@[simp] theorem State.hsAccessB_t2Run (s : State) : s.hsAccessB.t2Run = s.t2Run := rfl
@[simp] theorem State.hsAccessB_t2Pend (s : State) : s.hsAccessB.t2Pend = s.t2Pend := rfl
@[simp] theorem State.hsAccessB_srCount (s : State) : s.hsAccessB.srCount = s.srCount := rfl
@[simp] theorem State.hsAccessB_srPhase (s : State) : s.hsAccessB.srPhase = s.srPhase := rfl
@[simp] theorem State.hsAccessB_ca2 (s : State) : s.hsAccessB.ca2 = s.ca2 := rfl
@[simp] theorem State.hsAccessB_cb2 (s : State) : s.hsAccessB.cb2 = (accessLevels (cb2Mode s.pcr) s.cb2).getLastD s.cb2 := rfl
@[simp] theorem State.hsAccessB_events (s : State) : s.hsAccessB.events = s.events ++ (accessLevels (cb2Mode s.pcr) s.cb2).map .cb2 := rfl
@[simp] theorem State.hsAccessB_result (s : State) : s.hsAccessB.result = s.result := rfl
@[simp] theorem State.hsAccessB_paIn (s : State) : s.hsAccessB.paIn = s.paIn := rfl
@[simp] theorem State.hsAccessB_pbIn (s : State) : s.hsAccessB.pbIn = s.pbIn := rfl
@[simp] theorem State.hsAccessB_pinFeed (s : State) : s.hsAccessB.pinFeed = s.pinFeed := rfl
@[simp] theorem State.hsAccessB_stream (s : State) : s.hsAccessB.stream = s.stream := rfl
@[simp] theorem State.hsAccessB_draws (s : State) : s.hsAccessB.draws = s.draws := rfl

end Sys2Proof.Machine
end

