-- ==== Sys2Proof/Laws/Flags.lean ====
section
/-! SUPPORT. The interrupt-flag combinator: what `irq_update`, `ifr_set` and `ifr_clear` do, bit by bit
(41_interrupt_flags.md R171 to R174). -/

namespace Sys2Proof.Machine

open Sys2Proof.Safety

theorem combinedFlag_eq_request (ifr ier : Byte) : combinedFlag ifr ier = request ifr ier := rfl

theorem recomputed_eq_combine (ifr ier : Byte) : recomputed ifr ier = combine ifr ier := by
  unfold recomputed combine withBit bitAt
  rw [combinedFlag_eq_request]
  cases request ifr ier <;> rfl

theorem withBit_source (ifr : Byte) (k : Source) : withBit ifr (sourceBit k) true = ifr ||| sourceMask k := by
  revert ifr
  cases k <;> decide

theorem combine_getLsbD_of_lt (ifr ier : Byte) {k : Nat} (h : k < 7) :
    (combine ifr ier).getLsbD k = ifr.getLsbD k := by
  unfold combine
  have hk : k = 0 ∨ k = 1 ∨ k = 2 ∨ k = 3 ∨ k = 4 ∨ k = 5 ∨ k = 6 := by omega
  rcases hk with rfl | rfl | rfl | rfl | rfl | rfl | rfl <;> cases request ifr ier <;> simp

theorem combine_getLsbD_seven (ifr ier : Byte) : (combine ifr ier).getLsbD 7 = request ifr ier := by
  unfold combine
  cases request ifr ier <;> simp

/-- R174 (d): the combined flag has no memory of its own. -/
theorem request_of_low_bits {ifr ifr' : Byte} (ier : Byte) (h : ifr &&& 0x7F#8 = ifr' &&& 0x7F#8) :
    request ifr ier = request ifr' ier := by
  have key (x : Byte) : x &&& ier &&& 0x7F#8 = (x &&& 0x7F#8) &&& ier := by
    rw [BitVec.and_assoc, BitVec.and_comm ier, ← BitVec.and_assoc]
  unfold request
  rw [key, key, h]

theorem combine_of_low_bits {ifr ifr' : Byte} (ier : Byte) (h : ifr &&& 0x7F#8 = ifr' &&& 0x7F#8) :
    combine ifr ier = combine ifr' ier := by
  unfold combine
  rw [request_of_low_bits ier h, h]

theorem combine_low_bits (ifr ier : Byte) : combine ifr ier &&& 0x7F#8 = ifr &&& 0x7F#8 := by
  unfold combine
  cases request ifr ier <;> (revert ifr; decide)

theorem combine_or_low_bits (ifr ier m : Byte) :
    (combine ifr ier ||| m) &&& 0x7F#8 = (ifr ||| m) &&& 0x7F#8 := by
  have key (x : Byte) : (x ||| m) &&& 0x7F#8 = (x &&& 0x7F#8) ||| (m &&& 0x7F#8) := by
    ext k
    simp [Bool.and_or_distrib_right]
  rw [key, key, combine_low_bits]

/-- A second recomputation replaces the first. -/
theorem combine_or_combine (ifr ier m : Byte) : combine (combine ifr ier ||| m) ier = combine (ifr ||| m) ier :=
  combine_of_low_bits ier (combine_or_low_bits ifr ier m)

theorem request_combine_or (ifr ier m : Byte) : request (combine ifr ier ||| m) ier = request (ifr ||| m) ier :=
  request_of_low_bits ier (combine_or_low_bits ifr ier m)

/-- R171, said once. -/
theorem irqUpdate_eq (s : State) :
    s.irqUpdate = { s with ifr := combine s.ifr s.ier, events := s.events ++ [.irq (request s.ifr s.ier)] } := by
  unfold State.irqUpdate
  rw [recomputed_eq_combine, combinedFlag_eq_request]

/-- R172, said once. -/
theorem ifrSet_eq (s : State) (k : Source) :
    s.ifrSet k = { s with
      ifr := combine (s.ifr ||| sourceMask k) s.ier
      events := s.events ++ [.irq (request (s.ifr ||| sourceMask k) s.ier)] } := by
  unfold State.ifrSet
  rw [irqUpdate_eq, withBit_source]

/-- R173, said once. -/
theorem ifrClear_eq (s : State) (m : Byte) :
    s.ifrClear m = { s with
      ifr := combine (s.ifr &&& ~~~(m &&& 0x7F#8)) s.ier
      events := s.events ++ [.irq (request (s.ifr &&& ~~~(m &&& 0x7F#8)) s.ier)] } := by
  unfold State.ifrClear
  rw [irqUpdate_eq]

end Sys2Proof.Machine
end

