-- ==== Sys2Proof/Laws/Operands.lean ====
section
/-! SUPPORT. The operand forms: the bytes of a counter, the fields of PCR and ACR by their bits, the composition of a
port value, and the input latches (10_state.md R23, R24, R35 to R38, 20_memory.md R83). -/

namespace Sys2Proof.Machine

open Sys2Proof.Safety

theorem lowByte_eq_ofNat (c : Half) : lowByte c = BitVec.ofNat 8 c.toNat := by
  apply BitVec.eq_of_toNat_eq
  simp [lowByte, BitVec.extractLsb'_toNat]

theorem highByte_eq_ofNat (c : Half) : highByte c = BitVec.ofNat 8 (c.toNat / 256) := by
  apply BitVec.eq_of_toNat_eq
  simp [highByte, BitVec.extractLsb'_toNat, Nat.shiftRight_eq_div_pow]

theorem joinBytes_toNat (hi lo : Byte) : (joinBytes hi lo).toNat = 256 * hi.toNat + lo.toNat := by
  unfold joinBytes
  rw [BitVec.toNat_append, ← Nat.shiftLeft_add_eq_or_of_lt lo.isLt, Nat.shiftLeft_eq]
  omega

theorem lowByte_joinBytes (hi lo : Byte) : lowByte (joinBytes hi lo) = lo := by
  apply BitVec.eq_of_toNat_eq
  rw [lowByte_eq_ofNat, joinBytes_toNat, BitVec.toNat_ofNat]
  have := lo.isLt
  omega

theorem highByte_joinBytes (hi lo : Byte) : highByte (joinBytes hi lo) = hi := by
  apply BitVec.eq_of_toNat_eq
  rw [highByte_eq_ofNat, joinBytes_toNat, BitVec.toNat_ofNat]
  have := lo.isLt
  have := hi.isLt
  omega

theorem joinBytes_bytes (c : Half) : joinBytes (highByte c) (lowByte c) = c := by
  apply BitVec.eq_of_toNat_eq
  rw [joinBytes_toNat, highByte_eq_ofNat, lowByte_eq_ofNat, BitVec.toNat_ofNat, BitVec.toNat_ofNat]
  have := c.isLt
  omega

/-! ### The fields of PCR and ACR -/

theorem ca2Mode_toNat (s : State) : (ca2Mode s.pcr).toNat = modeA s := by
  simp [ca2Mode, modeA, BitVec.extractLsb'_toNat, Nat.shiftRight_eq_div_pow]

theorem cb2Mode_toNat (s : State) : (cb2Mode s.pcr).toNat = modeB s := by
  have := s.pcr.isLt
  simp [cb2Mode, modeB, BitVec.extractLsb'_toNat, Nat.shiftRight_eq_div_pow]
  omega

theorem modeIndependent_iff (m : BitVec 3) : modeIndependent m = true ↔ m.toNat = 1 ∨ m.toNat = 3 := by
  revert m
  decide

/-- Two bytes agree in a field of `len` bits from bit `start` when their difference has no bit there. -/
theorem extract_eq_iff (a b : Byte) (start len : Nat) :
    a.extractLsb' start len = b.extractLsb' start len ↔
      ∀ k < len, (a ^^^ b).getLsbD (start + k) = false := by
  constructor
  · intro h k hk
    have := congrArg (fun x => x.getLsbD k) h
    simp only [BitVec.getLsbD_extractLsb', hk, decide_true, Bool.true_and] at this
    rw [BitVec.getLsbD_xor, this, Bool.xor_self]
  · intro h
    apply BitVec.eq_of_getLsbD_eq
    intro k hk
    have := h k hk
    rw [BitVec.getLsbD_xor] at this
    simp only [BitVec.getLsbD_extractLsb', hk, decide_true, Bool.true_and]
    simpa using this

theorem field_clear_iff (x : Byte) :
    ((∀ k < 3, x.getLsbD (1 + k) = false) ↔ x &&& 0x0E#8 = 0#8) ∧
    ((∀ k < 3, x.getLsbD (5 + k) = false) ↔ x &&& 0xE0#8 = 0#8) ∧
    ((∀ k < 3, x.getLsbD (2 + k) = false) ↔ x &&& 0x1C#8 = 0#8) ∧
    (x.getLsbD 5 = false ↔ x &&& 0x20#8 = 0#8) := by
  revert x
  decide

theorem ca2Mode_eq_iff (a b : Byte) : ca2Mode a = ca2Mode b ↔ (a ^^^ b) &&& 0x0E#8 = 0#8 :=
  (extract_eq_iff a b 1 3).trans (field_clear_iff _).1

theorem cb2Mode_eq_iff (a b : Byte) : cb2Mode a = cb2Mode b ↔ (a ^^^ b) &&& 0xE0#8 = 0#8 :=
  (extract_eq_iff a b 5 3).trans (field_clear_iff _).2.1

theorem srMode_eq_iff (a b : Byte) : srMode a = srMode b ↔ (a ^^^ b) &&& 0x1C#8 = 0#8 :=
  (extract_eq_iff a b 2 3).trans (field_clear_iff _).2.2.1

theorem t2Pulse_eq_iff (a b : Byte) : t2Pulse a = t2Pulse b ↔ (a ^^^ b) &&& 0x20#8 = 0#8 := by
  rw [← (field_clear_iff _).2.2.2]
  simp [t2Pulse]

/-! ### Ports and input latches -/

/-- R24, bit by bit. -/
theorem portValue_getLsbD (latch direction input : Byte) {k : Nat} (hk : k < 8) :
    (portValue latch direction input).getLsbD k =
      if direction.getLsbD k then latch.getLsbD k else input.getLsbD k := by
  unfold portValue
  rw [BitVec.getLsbD_or, BitVec.getLsbD_and, BitVec.getLsbD_and, BitVec.getLsbD_not]
  cases direction.getLsbD k <;> simp [hk]

theorem loadInputLatchA_eq (s : State) :
    s.loadInputLatchA = { s with ila := if s.acr.getLsbD 0 then s.ila else s.paIn } := by
  unfold State.loadInputLatchA paLatch
  split <;> rfl

theorem loadInputLatchB_eq (s : State) :
    s.loadInputLatchB = { s with ilb := if s.acr.getLsbD 1 then s.ilb else s.pbIn } := by
  unfold State.loadInputLatchB pbLatch
  split <;> rfl

end Sys2Proof.Machine
end

