-- ==== Sys2Proof/Laws/Shift.lean ====
section
/-! SUPPORT. The shifter: everything one clock edge can do, said once (43_shift.md R222), and when each source gives
one (R225 to R227). -/

namespace Sys2Proof.Machine

open Sys2Proof.Safety

/-- The state after one clock edge of the shifter (R222). -/
def afterShift (s : State) : State :=
  { s with
    sr := shifted s
    cb2 := if s.acr.getLsbD 4 then s.sr.getLsbD 7 else s.cb2
    srCount := s.srCount + 1
    ifr := if s.srCount = 7 then combine (s.ifr ||| 0x04#8) s.ier else s.ifr
    events := s.events ++ shiftEvents s s.ifr }

theorem shiftBit_eq (s : State) :
    s.shiftBit = { s with
      sr := shifted s
      cb2 := if s.acr.getLsbD 4 then s.sr.getLsbD 7 else s.cb2
      events := s.events ++ (if s.acr.getLsbD 4 then [.cb2 (s.sr.getLsbD 7)] else []) } := by
  unfold State.shiftBit shifted serialBit srOut shiftLeftIn bitAt State.emit
  cases s.acr.getLsbD 4 <;> simp

theorem countShift_eq (s : State) :
    s.countShift = { s with
      srCount := s.srCount + 1
      ifr := if s.srCount = 7 then combine (s.ifr ||| 0x04#8) s.ier else s.ifr
      events := s.events ++ (if s.srCount = 7 then [.irq (request (s.ifr ||| 0x04#8) s.ier)] else []) } := by
  have mask : sourceMask .sr = 0x04#8 := rfl
  have count : (s.srCount + 1 = shiftsPerByte) = (s.srCount = 7) := by simp [shiftsPerByte]
  unfold State.countShift
  simp only [count, ifrSet_eq, mask]
  split <;> simp

theorem shiftStep_eq (s : State) : s.shiftStep = afterShift s := by
  unfold State.shiftStep afterShift shiftEvents
  rw [shiftBit_eq, countShift_eq]
  simp only [List.append_assoc]

theorem srSource_toNat (s : State) : (srSource s.acr).toNat = shiftSource s := by
  unfold srSource shiftSource
  simp [BitVec.extractLsb'_toNat, Nat.shiftRight_eq_div_pow]

theorem srSource_eq_iff (s : State) (k : BitVec 2) : srSource s.acr = k ↔ shiftSource s = k.toNat := by
  rw [← srSource_toNat]
  exact BitVec.toNat_inj.symm

/-- R225, said once. -/
theorem tickSr_eq (s : State) :
    s.tickSr =
      if shiftSource s = 2 ∧ s.srCount < 8 then
        (if s.srPhase then afterShift { s with srPhase := false } else { s with srPhase := true })
      else s := by
  unfold State.tickSr
  simp only [srSource_eq_iff, shiftStep_eq]
  rfl

/-- R226, said once. -/
theorem srTimer2Edge_eq (s : State) :
    s.srTimer2Edge = if shiftSource s = 1 ∧ s.srCount < 8 then afterShift s else s := by
  unfold State.srTimer2Edge
  simp only [srSource_eq_iff, shiftStep_eq]
  rfl

/-- R227, said once. -/
theorem srExtEdge_eq (s : State) (level : Bool) :
    s.srExtEdge level =
      if shiftSource s = 3 ∧ s.srCount < 8 ∧ level = !s.acr.getLsbD 4 then afterShift s else s := by
  unfold State.srExtEdge
  simp only [srSource_eq_iff, shiftStep_eq]
  rfl

end Sys2Proof.Machine
end

