-- ==== Sys2Proof/Laws/Handshake.lean ====
section
/-! SUPPORT. The handshake lines: what a port access clears and drives, what a PCR store does to a line, and what each
EDGE procedure can do, said once (42_handshake.md R192 to R201). -/

namespace Sys2Proof.Machine

open Sys2Proof.Safety

theorem accessLevels_eq_drives (m : BitVec 3) (level : Bool) : accessLevels m level = drives m.toNat level := by
  revert m level
  decide

theorem getLastD_drives (m : BitVec 3) (level : Bool) :
    (drives m.toNat level).getLastD level = levelAfter m.toNat level := by
  revert m level
  decide

/-- R201: what survives the flag clear of a port access of pair A. -/
theorem and_not_clearMaskA (s : State) (f : Byte) :
    f &&& ~~~(clearMaskA s.pcr &&& 0x7F#8) = f &&& keptByAccess (modeA s) 0x02#8 0x01#8 := by
  unfold clearMaskA keptByAccess
  simp only [modeIndependent_iff, ca2Mode_toNat]
  split <;> congr 1

/-- R201: what survives the flag clear of a port access of pair B. -/
theorem and_not_clearMaskB (s : State) (f : Byte) :
    f &&& ~~~(clearMaskB s.pcr &&& 0x7F#8) = f &&& keptByAccess (modeB s) 0x10#8 0x08#8 := by
  unfold clearMaskB keptByAccess
  simp only [modeIndependent_iff, cb2Mode_toNat]
  split <;> congr 1

/-- R200, said once for pair A. -/
theorem hsAccessA_eq (s : State) :
    s.hsAccessA = { s with
      ca2 := levelAfter (modeA s) s.ca2
      events := s.events ++ (drives (modeA s) s.ca2).map .ca2 } := by
  unfold State.hsAccessA
  rw [accessLevels_eq_drives, getLastD_drives, ca2Mode_toNat]

/-- R200, said once for pair B. -/
theorem hsAccessB_eq (s : State) :
    s.hsAccessB = { s with
      cb2 := levelAfter (modeB s) s.cb2
      events := s.events ++ (drives (modeB s) s.cb2).map .cb2 } := by
  unfold State.hsAccessB
  rw [accessLevels_eq_drives, getLastD_drives, cb2Mode_toNat]

theorem lineIdle_ca2Mode (pcr : Byte) : lineIdle (ca2Mode pcr) = !(pcr &&& 0x0E#8 == 0x0C#8) := by
  revert pcr
  decide

theorem lineIdle_cb2Mode (pcr : Byte) : lineIdle (cb2Mode pcr) = !(pcr &&& 0xE0#8 == 0xC0#8) := by
  revert pcr
  decide

/-- R197, the CA2 half: a line that changes mode takes its idle level, with one event. -/
theorem rederiveA_eq (old new : Byte) (s : State) :
    s.rederiveA old new =
      if (old ^^^ new) &&& 0x0E#8 = 0#8 then s
      else State.emit { s with ca2 := !(new &&& 0x0E#8 == 0x0C#8) } (.ca2 (!(new &&& 0x0E#8 == 0x0C#8))) := by
  unfold State.rederiveA
  simp only [ca2Mode_eq_iff, lineIdle_ca2Mode]

/-- R197, the CB2 half. -/
theorem rederiveB_eq (old new : Byte) (s : State) :
    s.rederiveB old new =
      if (old ^^^ new) &&& 0xE0#8 = 0#8 then s
      else State.emit { s with cb2 := !(new &&& 0xE0#8 == 0xC0#8) } (.cb2 (!(new &&& 0xE0#8 == 0xC0#8))) := by
  unfold State.rederiveB
  simp only [cb2Mode_eq_iff, lineIdle_cb2Mode]

/-- R192, by the two cases of the edge. -/
theorem edgeCa1_eq (level : Bool) (s : State) :
    s.edgeCa1 level =
      if level = s.pcr.getLsbD 0 then
        { s with
          ifr := combine (s.ifr ||| 0x02#8) s.ier
          ila := if s.acr.getLsbD 0 then s.paIn else s.ila
          events := s.events ++ [.irq (request (s.ifr ||| 0x02#8) s.ier)] }
      else { s with ifr := combine s.ifr s.ier, events := s.events ++ [.irq (request s.ifr s.ier)] } := by
  have mask : sourceMask .ca1 = 0x02#8 := rfl
  unfold State.edgeCa1
  simp only [irqUpdate_eq, withBit_source, mask, ca1Pol, paLatch]
  rfl

/-- R193: an input line takes the level, and an active edge sets the flag; an output line ignores the edge. -/
theorem edgeCa2_eq (level : Bool) (s : State) :
    s.edgeCa2 level =
      if s.pcr.getLsbD 3 then s
      else { s with
        ca2 := level
        ifr := combine (if level = s.pcr.getLsbD 2 then s.ifr ||| 0x01#8 else s.ifr) s.ier
        events := s.events ++
          [.irq (request (if level = s.pcr.getLsbD 2 then s.ifr ||| 0x01#8 else s.ifr) s.ier)] } := by
  have mask : sourceMask .ca2 = 0x01#8 := rfl
  have input : modeIsInput (ca2Mode s.pcr) = !s.pcr.getLsbD 3 := by simp [modeIsInput, ca2Mode]
  have rising : modeRising (ca2Mode s.pcr) = s.pcr.getLsbD 2 := by simp [modeRising, ca2Mode]
  unfold State.edgeCa2
  simp only [irqUpdate_eq, withBit_source, mask, input, rising]
  cases s.pcr.getLsbD 3 <;> rfl

/-- R194, the part of the flag and the latch; the shifter comes after it. -/
theorem edgeCb1_eq (level : Bool) (s : State) :
    s.edgeCb1 level =
      (if level = s.pcr.getLsbD 4 then
        State.srExtEdge { s with
          ifr := combine (s.ifr ||| 0x10#8) s.ier
          ilb := if s.acr.getLsbD 1 then s.pbIn else s.ilb
          events := s.events ++ [.irq (request (s.ifr ||| 0x10#8) s.ier)] } level
      else State.srExtEdge { s with
          ifr := combine s.ifr s.ier
          events := s.events ++ [.irq (request s.ifr s.ier)] } level) := by
  have mask : sourceMask .cb1 = 0x10#8 := rfl
  unfold State.edgeCb1
  simp only [irqUpdate_eq, withBit_source, mask, cb1Pol, pbLatch]
  rfl

/-- R195, as R193 for the other pair. -/
theorem edgeCb2_eq (level : Bool) (s : State) :
    s.edgeCb2 level =
      if s.pcr.getLsbD 7 then s
      else { s with
        cb2 := level
        ifr := combine (if level = s.pcr.getLsbD 6 then s.ifr ||| 0x08#8 else s.ifr) s.ier
        events := s.events ++
          [.irq (request (if level = s.pcr.getLsbD 6 then s.ifr ||| 0x08#8 else s.ifr) s.ier)] } := by
  have mask : sourceMask .cb2 = 0x08#8 := rfl
  have input : modeIsInput (cb2Mode s.pcr) = !s.pcr.getLsbD 7 := by simp [modeIsInput, cb2Mode]
  have rising : modeRising (cb2Mode s.pcr) = s.pcr.getLsbD 6 := by simp [modeRising, cb2Mode]
  unfold State.edgeCb2
  simp only [irqUpdate_eq, withBit_source, mask, input, rising]
  cases s.pcr.getLsbD 7 <;> rfl

end Sys2Proof.Machine
end

