-- ==== Sys2Proof/Laws/PerInstr.lean ====
section
/-! SUPPORT. One lemma per operation: an encoded well-formed operation has as many bytes as its command byte decides
(30_encoding.md R101). -/

namespace Sys2Proof.Laws.EncodedLength

/-- R101: "The length of an operation is decided by `cmd` alone". -/
def Statement (i : Instr) : Prop := i.wellFormed = true → (encode i).length = operationLength (cmdOf i)

theorem stOrb (v : Byte) : Statement (.stOrb v) := fun _ => (by decide : 2 = operationLength 0x00#8)
theorem stOra (v : Byte) : Statement (.stOra v) := fun _ => (by decide : 2 = operationLength 0x01#8)
theorem stDdrb (v : Byte) : Statement (.stDdrb v) := fun _ => (by decide : 2 = operationLength 0x02#8)
theorem stDdra (v : Byte) : Statement (.stDdra v) := fun _ => (by decide : 2 = operationLength 0x03#8)
theorem stT1cl (v : Byte) : Statement (.stT1cl v) := fun _ => (by decide : 2 = operationLength 0x04#8)
theorem stT1ch (v : Byte) : Statement (.stT1ch v) := fun _ => (by decide : 2 = operationLength 0x05#8)
theorem stT1ll (v : Byte) : Statement (.stT1ll v) := fun _ => (by decide : 2 = operationLength 0x06#8)
theorem stT1lh (v : Byte) : Statement (.stT1lh v) := fun _ => (by decide : 2 = operationLength 0x07#8)
theorem stT2cl (v : Byte) : Statement (.stT2cl v) := fun _ => (by decide : 2 = operationLength 0x08#8)
theorem stT2ch (v : Byte) : Statement (.stT2ch v) := fun _ => (by decide : 2 = operationLength 0x09#8)
theorem stSr (v : Byte) : Statement (.stSr v) := fun _ => (by decide : 2 = operationLength 0x0A#8)
theorem stAcr (v : Byte) : Statement (.stAcr v) := fun _ => (by decide : 2 = operationLength 0x0B#8)
theorem stPcr (v : Byte) : Statement (.stPcr v) := fun _ => (by decide : 2 = operationLength 0x0C#8)
theorem stIfr (v : Byte) : Statement (.stIfr v) := fun _ => (by decide : 2 = operationLength 0x0D#8)
theorem stIer (v : Byte) : Statement (.stIer v) := fun _ => (by decide : 2 = operationLength 0x0E#8)
theorem stOrax (v : Byte) : Statement (.stOrax v) := fun _ => (by decide : 2 = operationLength 0x0F#8)
theorem rdOrb : Statement .rdOrb := fun _ => (by decide : 1 = operationLength 0x40#8)
theorem rdOra : Statement .rdOra := fun _ => (by decide : 1 = operationLength 0x41#8)
theorem rdDdrb : Statement .rdDdrb := fun _ => (by decide : 1 = operationLength 0x42#8)
theorem rdDdra : Statement .rdDdra := fun _ => (by decide : 1 = operationLength 0x43#8)
theorem rdT1cl : Statement .rdT1cl := fun _ => (by decide : 1 = operationLength 0x44#8)
theorem rdT1ch : Statement .rdT1ch := fun _ => (by decide : 1 = operationLength 0x45#8)
theorem rdT1ll : Statement .rdT1ll := fun _ => (by decide : 1 = operationLength 0x46#8)
theorem rdT1lh : Statement .rdT1lh := fun _ => (by decide : 1 = operationLength 0x47#8)
theorem rdT2cl : Statement .rdT2cl := fun _ => (by decide : 1 = operationLength 0x48#8)
theorem rdT2ch : Statement .rdT2ch := fun _ => (by decide : 1 = operationLength 0x49#8)
theorem rdSr : Statement .rdSr := fun _ => (by decide : 1 = operationLength 0x4A#8)
theorem rdAcr : Statement .rdAcr := fun _ => (by decide : 1 = operationLength 0x4B#8)
theorem rdPcr : Statement .rdPcr := fun _ => (by decide : 1 = operationLength 0x4C#8)
theorem rdIfr : Statement .rdIfr := fun _ => (by decide : 1 = operationLength 0x4D#8)
theorem rdIer : Statement .rdIer := fun _ => (by decide : 1 = operationLength 0x4E#8)
theorem rdOrax : Statement .rdOrax := fun _ => (by decide : 1 = operationLength 0x4F#8)
theorem pkOrb : Statement .pkOrb := fun _ => (by decide : 1 = operationLength 0x80#8)
theorem pkOra : Statement .pkOra := fun _ => (by decide : 1 = operationLength 0x81#8)
theorem pkDdrb : Statement .pkDdrb := fun _ => (by decide : 1 = operationLength 0x82#8)
theorem pkDdra : Statement .pkDdra := fun _ => (by decide : 1 = operationLength 0x83#8)
theorem pkT1cl : Statement .pkT1cl := fun _ => (by decide : 1 = operationLength 0x84#8)
theorem pkT1ch : Statement .pkT1ch := fun _ => (by decide : 1 = operationLength 0x85#8)
theorem pkT1ll : Statement .pkT1ll := fun _ => (by decide : 1 = operationLength 0x86#8)
theorem pkT1lh : Statement .pkT1lh := fun _ => (by decide : 1 = operationLength 0x87#8)
theorem pkT2cl : Statement .pkT2cl := fun _ => (by decide : 1 = operationLength 0x88#8)
theorem pkT2ch : Statement .pkT2ch := fun _ => (by decide : 1 = operationLength 0x89#8)
theorem pkSr : Statement .pkSr := fun _ => (by decide : 1 = operationLength 0x8A#8)
theorem pkAcr : Statement .pkAcr := fun _ => (by decide : 1 = operationLength 0x8B#8)
theorem pkPcr : Statement .pkPcr := fun _ => (by decide : 1 = operationLength 0x8C#8)
theorem pkIfr : Statement .pkIfr := fun _ => (by decide : 1 = operationLength 0x8D#8)
theorem pkIer : Statement .pkIer := fun _ => (by decide : 1 = operationLength 0x8E#8)
theorem pkOrax : Statement .pkOrax := fun _ => (by decide : 1 = operationLength 0x8F#8)
theorem tick : Statement .tick := fun _ => (by decide : 1 = operationLength 0xC0#8)
theorem reset : Statement .reset := fun _ => (by decide : 1 = operationLength 0xC1#8)
theorem init : Statement .init := fun _ => (by decide : 1 = operationLength 0xC2#8)
theorem snapw : Statement .snapw := fun _ => (by decide : 1 = operationLength 0xC3#8)
theorem snapr (payload : List Byte) : Statement (.snapr payload) := by
  intro h
  have len : payload.length = 22 := by simpa [Instr.wellFormed, snapshotLength] using h
  have cmd : operationLength 0xC4#8 = 23 := by decide
  exact (congrArg (· + 1) len).trans cmd.symm
theorem edgeCa1Fall : Statement .edgeCa1Fall := fun _ => (by decide : 1 = operationLength 0xD0#8)
theorem edgeCa1Rise : Statement .edgeCa1Rise := fun _ => (by decide : 1 = operationLength 0xD1#8)
theorem edgeCa2Fall : Statement .edgeCa2Fall := fun _ => (by decide : 1 = operationLength 0xD2#8)
theorem edgeCa2Rise : Statement .edgeCa2Rise := fun _ => (by decide : 1 = operationLength 0xD3#8)
theorem edgeCb1Fall : Statement .edgeCb1Fall := fun _ => (by decide : 1 = operationLength 0xD4#8)
theorem edgeCb1Rise : Statement .edgeCb1Rise := fun _ => (by decide : 1 = operationLength 0xD5#8)
theorem edgeCb2Fall : Statement .edgeCb2Fall := fun _ => (by decide : 1 = operationLength 0xD6#8)
theorem edgeCb2Rise : Statement .edgeCb2Rise := fun _ => (by decide : 1 = operationLength 0xD7#8)
theorem edgePb6Fall : Statement .edgePb6Fall := fun _ => (by decide : 1 = operationLength 0xD8#8)
theorem edgePb6Rise : Statement .edgePb6Rise := fun _ => (by decide : 1 = operationLength 0xD9#8)

end Sys2Proof.Laws.EncodedLength
end

