-- ==== Sys2Proof/Laws/System.lean ====
section
/-! SUPPORT. The snapshot: when a payload is valid, in numbers (46_system_snapshot.md R325), what the two flag bytes hold
bit by bit (R324), and the two things SNAPR can do (R326). -/

namespace Sys2Proof.Machine

open Sys2Proof.Safety

theorem shiftRight_six_eq_zero_iff (x : Byte) : x >>> 6 = 0#8 ↔ x.toNat < 64 := by
  revert x
  decide

theorem low_nibble_toNat (x : Byte) : (x &&& 0x0F#8).toNat = x.toNat % 16 := by
  revert x
  decide

theorem eq_zero_iff_toNat (x : Byte) : x = 0#8 ↔ ¬ 0 < x.toNat := by
  revert x
  decide

/-- R325, condition by condition. -/
theorem snapValid_iff (l1 l2 : Nat) (b : List Byte) :
    snapValid l1 l2 b = true ↔
      b.length = 22 ∧
      ((payloadByte b 18).toNat < 64 ∧ (payloadByte b 19).toNat < 64) ∧
      (payloadByte b 19).toNat % 16 ≤ 8 ∧
      (payloadByte b 18).getLsbD 3 = (payloadByte b 12).getLsbD 5 ∧
      ((payloadByte b 20).toNat ≤ l1 - 1 ∧ (payloadByte b 21).toNat ≤ l2 - 1) ∧
      (0 < (payloadByte b 20).toNat → (payloadByte b 18).getLsbD 0 = true) ∧
      (0 < (payloadByte b 21).toNat →
        (payloadByte b 18).getLsbD 2 = true ∧ (payloadByte b 12).getLsbD 5 = false) ∧
      ((payloadByte b 18).getLsbD 1 = true → (payloadByte b 18).getLsbD 0 = false) := by
  have disj (p : Prop) (q : Prop) : (¬ p ∨ q) ↔ (p → q) := by tauto
  unfold snapValid
  simp only [Bool.and_eq_true, Bool.or_eq_true, Bool.not_eq_true', beq_iff_eq, decide_eq_true_eq, snapshotLength,
    shiftRight_six_eq_zero_iff, low_nibble_toNat]
  simp only [eq_zero_iff_toNat, disj]
  cases (payloadByte b 18).getLsbD 1 <;> simp [and_assoc]

theorem snapshotRead_of_valid {l1 l2 : Nat} {b : List Byte} (h : snapValid l1 l2 b = true) (s : State) :
    s.snapshotRead l1 l2 b = (s.begin.restore b).emitUndump.returnOk := if_pos h

theorem snapshotRead_of_not_valid {l1 l2 : Nat} {b : List Byte} (h : snapValid l1 l2 b = false) (s : State) :
    s.snapshotRead l1 l2 b = s.formatError := if_neg (by simp [h])

theorem snapshotBytes_length (s : State) : s.snapshotBytes.length = 22 := rfl

theorem flag_bits (a b c d e f : Bool) :
    let x := bitAt 0 a ||| bitAt 1 b ||| bitAt 2 c ||| bitAt 3 d ||| bitAt 4 e ||| bitAt 5 f
    x.getLsbD 0 = a ∧ x.getLsbD 1 = b ∧ x.getLsbD 2 = c ∧ x.getLsbD 3 = d ∧ x.getLsbD 4 = e ∧ x.getLsbD 5 = f ∧
    x.toNat < 64 := by
  revert a b c d e f
  decide

/-- R324, byte 18. -/
theorem flagsA_bits (s : State) :
    s.flagsA.getLsbD 0 = s.t1Run ∧ s.flagsA.getLsbD 1 = s.t1Fired ∧ s.flagsA.getLsbD 2 = s.t2Run ∧
    s.flagsA.getLsbD 3 = s.acr.getLsbD 5 ∧ s.flagsA.getLsbD 4 = s.ca2 ∧ s.flagsA.getLsbD 5 = s.cb2 ∧
    s.flagsA.toNat < 64 :=
  flag_bits s.t1Run s.t1Fired s.t2Run (s.acr.getLsbD 5) s.ca2 s.cb2

theorem count_bits (n : Fin 9) (a b : Bool) :
    let x := (BitVec.ofNat 8 n.val &&& 0x0F#8) ||| bitAt 4 a ||| bitAt 5 b
    x.toNat % 16 = n.val ∧ x.getLsbD 4 = a ∧ x.getLsbD 5 = b ∧ x.toNat < 64 := by
  revert n a b
  decide

/-- R324, byte 19, in a state whose count is in its range. -/
theorem flagsB_bits (s : State) (h : s.srCount ≤ 8) :
    s.flagsB.toNat % 16 = s.srCount ∧ s.flagsB.getLsbD 4 = s.srPhase ∧ s.flagsB.getLsbD 5 = s.t1Out ∧
    s.flagsB.toNat < 64 :=
  count_bits ⟨s.srCount, Nat.lt_succ_of_le h⟩ s.srPhase s.t1Out

end Sys2Proof.Machine
end

