-- ==== Sys2Proof/Laws/Timers.lean ====
section
/-! SUPPORT. The timers: everything an underflow action and a timer's part of TICK can do, said once, for any latency
(40_timers.md R132, R134, R137, R138). -/

namespace Sys2Proof.Machine

open Sys2Proof.Safety

/-- R134: what `T1_ACTION` does. -/
theorem t1Action_eq (s : State) :
    s.t1Action = { s with
      ifr := combine (s.ifr ||| 0x40#8) s.ier
      t1c := if s.acr.getLsbD 6 then s.t1lh ++ s.t1ll else s.t1c
      t1Run := s.t1Run && s.acr.getLsbD 6
      t1Fired := s.t1Fired || !s.acr.getLsbD 6
      t1Out := if s.acr.getLsbD 6 && s.acr.getLsbD 7 then !s.t1Out else s.t1Out
      events := s.events ++ [.irq (request (s.ifr ||| 0x40#8) s.ier)] ++
        (if s.acr.getLsbD 6 && s.acr.getLsbD 7 then [.t1out (!s.t1Out)] else []) } := by
  have mask : sourceMask .t1 = 0x40#8 := rfl
  unfold State.t1Action State.t1Reload State.t1Stop t1Cont t1Toggle joinBytes State.emit
  simp only [ifrSet_eq, mask]
  cases s.acr.getLsbD 6 <;> cases s.acr.getLsbD 7 <;> simp

/-- Timer 1's underflow action falls in this TICK, for latency `l1`. -/
def t1Due (l1 : Nat) (s : State) : Bool := s.t1Run && (s.t1Pend == 1 || (s.t1Pend == 0 && s.t1c == 0#16 && l1 == 1))

/-- R132: what `TICK_T1` does. -/
theorem tickT1_eq (l1 : Nat) (s : State) :
    s.tickT1 l1 =
      if t1Due l1 s then State.t1Action { s with t1c := s.t1c - 1#16, t1Pend := 0 }
      else { s with
        t1c := if s.t1Run then s.t1c - 1#16 else s.t1c
        t1Pend := if s.t1Run = false then s.t1Pend
                  else if 0 < s.t1Pend then s.t1Pend - 1
                  else if s.t1c = 0#16 then l1 - 1 else 0 } := by
  obtain ⟨orb, ora, ddrb, ddra, t1c, t1ll, t1lh, t2c, t2ll, sr, acr, pcr, ifr, ier, ila, ilb, t1Run, t1Fired, t1Pend, t1Out, t2Run, t2Pend, srCount, srPhase, ca2, cb2, events, result, paIn, pbIn, pinFeed, stream, draws⟩ := s
  unfold State.tickT1 t1Due
  dsimp only
  cases t1Run
  · simp
  · rcases t1Pend with _ | _ | n
    · by_cases hc : t1c = 0#16
      · by_cases hl : l1 = 1 <;> simp [hc, hl]
      · simp [hc]
    · simp
    · simp

/-- R138: what `T2_ACTION` does. -/
theorem t2Action_eq (s : State) :
    s.t2Action =
      State.srTimer2Edge { s with
        t2Run := false
        t2Pend := 0
        ifr := combine (s.ifr ||| 0x20#8) s.ier
        events := s.events ++ [.irq (request (s.ifr ||| 0x20#8) s.ier)] } := by
  unfold State.t2Action
  have mask : sourceMask .t2 = 0x20#8 := rfl
  rw [ifrSet_eq, mask]

/-- Timer 2's underflow action falls in this TICK, for latency `l2`. -/
def t2Due (l2 : Nat) (s : State) : Bool :=
  timer2Counts s && (s.t2Pend == 1 || (s.t2Pend == 0 && s.t2c == 0#16 && l2 == 1))

/-- R137: what `TICK_T2` does. -/
theorem tickT2_eq (l2 : Nat) (s : State) :
    s.tickT2 l2 =
      if t2Due l2 s then State.t2Action { s with t2c := s.t2c - 1#16, t2Pend := 0 }
      else { s with
        t2c := if timer2Counts s then s.t2c - 1#16 else s.t2c
        t2Pend := if timer2Counts s = false then s.t2Pend
                  else if 0 < s.t2Pend then s.t2Pend - 1
                  else if s.t2c = 0#16 then l2 - 1 else 0 } := by
  have hcount : (s.t2Run && !t2Pulse s.acr) = timer2Counts s := rfl
  unfold State.tickT2 t2Due
  rw [hcount]
  generalize timer2Counts s = counts
  obtain ⟨orb, ora, ddrb, ddra, t1c, t1ll, t1lh, t2c, t2ll, sr, acr, pcr, ifr, ier, ila, ilb, t1Run, t1Fired, t1Pend, t1Out, t2Run, t2Pend, srCount, srPhase, ca2, cb2, events, result, paIn, pbIn, pinFeed, stream, draws⟩ := s
  dsimp only
  cases counts
  · simp
  · rcases t2Pend with _ | _ | n
    · by_cases hc : t2c = 0#16
      · by_cases hl : l2 = 1 <;> simp [hc, hl]
      · simp [hc]
    · simp
    · simp

end Sys2Proof.Machine
end

