-- ==== Sys2Proof/Tests/Slice0.lean ====
section
/-! SUPPORT. The model's own tests, each expected value taken from 95_test_vectors.md or worked by hand from the rule it
names, and a witness for each statement of Certificates/Slice0/Obligations.lean that has hypotheses. -/

namespace Sys2Proof.Tests

open Sys2Proof Sys2Proof.Machine Sys2Proof.Safety

/-- The next state, if there is one. -/
def next? (o : Host.Outcome State Fault Refusal) : Option State :=
  match o with
  | .next t => some t
  | _ => none

/-- What the operation returns, its events, and `ifr` after it. -/
def seen (i : Instr) (s : State) : Option (Result × List Event × Byte) :=
  (next? (exec i s)).map fun t => (t.result, t.events, t.ifr)

/-! ### Well-formedness -/

theorem test_wellFormed_rejects_a_payload_of_21_bytes : (Instr.snapr (List.replicate 21 0x00#8)).wellFormed = false := by
  decide

theorem test_wellFormed_rejects_a_payload_of_23_bytes : (Instr.snapr (List.replicate 23 0x00#8)).wellFormed = false := by
  decide

theorem test_wellFormed_accepts_a_payload_of_22_bytes : (Instr.snapr (List.replicate 22 0x00#8)).wellFormed = true := by
  decide

/-! ### Decoding: the words of 30_encoding.md R105 to R109, the byte after each operation left over -/

/-- R105: `cmd` = a. -/
theorem test_decode_stores :
    decode [0x00#8, 0xA5#8, 0xEE#8] = .ok (.stOrb 0xA5#8, [0xEE#8]) ∧
    decode [0x01#8, 0xAC#8, 0xEE#8] = .ok (.stOra 0xAC#8, [0xEE#8]) ∧
    decode [0x02#8, 0xB3#8, 0xEE#8] = .ok (.stDdrb 0xB3#8, [0xEE#8]) ∧
    decode [0x03#8, 0xBA#8, 0xEE#8] = .ok (.stDdra 0xBA#8, [0xEE#8]) ∧
    decode [0x04#8, 0xC1#8, 0xEE#8] = .ok (.stT1cl 0xC1#8, [0xEE#8]) ∧
    decode [0x05#8, 0xC8#8, 0xEE#8] = .ok (.stT1ch 0xC8#8, [0xEE#8]) ∧
    decode [0x06#8, 0xCF#8, 0xEE#8] = .ok (.stT1ll 0xCF#8, [0xEE#8]) ∧
    decode [0x07#8, 0xD6#8, 0xEE#8] = .ok (.stT1lh 0xD6#8, [0xEE#8]) ∧
    decode [0x08#8, 0xDD#8, 0xEE#8] = .ok (.stT2cl 0xDD#8, [0xEE#8]) ∧
    decode [0x09#8, 0xE4#8, 0xEE#8] = .ok (.stT2ch 0xE4#8, [0xEE#8]) ∧
    decode [0x0A#8, 0xEB#8, 0xEE#8] = .ok (.stSr 0xEB#8, [0xEE#8]) ∧
    decode [0x0B#8, 0xF2#8, 0xEE#8] = .ok (.stAcr 0xF2#8, [0xEE#8]) ∧
    decode [0x0C#8, 0xF9#8, 0xEE#8] = .ok (.stPcr 0xF9#8, [0xEE#8]) ∧
    decode [0x0D#8, 0x00#8, 0xEE#8] = .ok (.stIfr 0x00#8, [0xEE#8]) ∧
    decode [0x0E#8, 0x07#8, 0xEE#8] = .ok (.stIer 0x07#8, [0xEE#8]) ∧
    decode [0x0F#8, 0x0E#8, 0xEE#8] = .ok (.stOrax 0x0E#8, [0xEE#8]) :=
  ⟨rfl, rfl, rfl, rfl, rfl, rfl, rfl, rfl, rfl, rfl, rfl, rfl, rfl, rfl, rfl, rfl⟩

/-- R106: `cmd` = 0x40 + a. -/
theorem test_decode_reads :
    decode [0x40#8, 0xEE#8] = .ok (.rdOrb, [0xEE#8]) ∧
    decode [0x41#8, 0xEE#8] = .ok (.rdOra, [0xEE#8]) ∧
    decode [0x42#8, 0xEE#8] = .ok (.rdDdrb, [0xEE#8]) ∧
    decode [0x43#8, 0xEE#8] = .ok (.rdDdra, [0xEE#8]) ∧
    decode [0x44#8, 0xEE#8] = .ok (.rdT1cl, [0xEE#8]) ∧
    decode [0x45#8, 0xEE#8] = .ok (.rdT1ch, [0xEE#8]) ∧
    decode [0x46#8, 0xEE#8] = .ok (.rdT1ll, [0xEE#8]) ∧
    decode [0x47#8, 0xEE#8] = .ok (.rdT1lh, [0xEE#8]) ∧
    decode [0x48#8, 0xEE#8] = .ok (.rdT2cl, [0xEE#8]) ∧
    decode [0x49#8, 0xEE#8] = .ok (.rdT2ch, [0xEE#8]) ∧
    decode [0x4A#8, 0xEE#8] = .ok (.rdSr, [0xEE#8]) ∧
    decode [0x4B#8, 0xEE#8] = .ok (.rdAcr, [0xEE#8]) ∧
    decode [0x4C#8, 0xEE#8] = .ok (.rdPcr, [0xEE#8]) ∧
    decode [0x4D#8, 0xEE#8] = .ok (.rdIfr, [0xEE#8]) ∧
    decode [0x4E#8, 0xEE#8] = .ok (.rdIer, [0xEE#8]) ∧
    decode [0x4F#8, 0xEE#8] = .ok (.rdOrax, [0xEE#8]) :=
  ⟨rfl, rfl, rfl, rfl, rfl, rfl, rfl, rfl, rfl, rfl, rfl, rfl, rfl, rfl, rfl, rfl⟩

/-- R107: `cmd` = 0x80 + a. -/
theorem test_decode_peeks :
    decode [0x80#8, 0xEE#8] = .ok (.pkOrb, [0xEE#8]) ∧
    decode [0x81#8, 0xEE#8] = .ok (.pkOra, [0xEE#8]) ∧
    decode [0x82#8, 0xEE#8] = .ok (.pkDdrb, [0xEE#8]) ∧
    decode [0x83#8, 0xEE#8] = .ok (.pkDdra, [0xEE#8]) ∧
    decode [0x84#8, 0xEE#8] = .ok (.pkT1cl, [0xEE#8]) ∧
    decode [0x85#8, 0xEE#8] = .ok (.pkT1ch, [0xEE#8]) ∧
    decode [0x86#8, 0xEE#8] = .ok (.pkT1ll, [0xEE#8]) ∧
    decode [0x87#8, 0xEE#8] = .ok (.pkT1lh, [0xEE#8]) ∧
    decode [0x88#8, 0xEE#8] = .ok (.pkT2cl, [0xEE#8]) ∧
    decode [0x89#8, 0xEE#8] = .ok (.pkT2ch, [0xEE#8]) ∧
    decode [0x8A#8, 0xEE#8] = .ok (.pkSr, [0xEE#8]) ∧
    decode [0x8B#8, 0xEE#8] = .ok (.pkAcr, [0xEE#8]) ∧
    decode [0x8C#8, 0xEE#8] = .ok (.pkPcr, [0xEE#8]) ∧
    decode [0x8D#8, 0xEE#8] = .ok (.pkIfr, [0xEE#8]) ∧
    decode [0x8E#8, 0xEE#8] = .ok (.pkIer, [0xEE#8]) ∧
    decode [0x8F#8, 0xEE#8] = .ok (.pkOrax, [0xEE#8]) :=
  ⟨rfl, rfl, rfl, rfl, rfl, rfl, rfl, rfl, rfl, rfl, rfl, rfl, rfl, rfl, rfl, rfl⟩

/-- R108: `cmd` = 0xC0 + event. -/
theorem test_decode_events :
    decode [0xC0#8, 0xEE#8] = .ok (.tick, [0xEE#8]) ∧
    decode [0xC1#8, 0xEE#8] = .ok (.reset, [0xEE#8]) ∧
    decode [0xC2#8, 0xEE#8] = .ok (.init, [0xEE#8]) ∧
    decode [0xC3#8, 0xEE#8] = .ok (.snapw, [0xEE#8]) ∧
    decode (0xC4#8 :: List.replicate 22 0x5A#8 ++ [0xEE#8]) = .ok (.snapr (List.replicate 22 0x5A#8), [0xEE#8]) :=
  ⟨rfl, rfl, rfl, rfl, rfl⟩

/-- R109: `cmd` = 0xD0 + 2 * line + level. -/
theorem test_decode_edges :
    decode [0xD0#8, 0xEE#8] = .ok (.edgeCa1Fall, [0xEE#8]) ∧
    decode [0xD1#8, 0xEE#8] = .ok (.edgeCa1Rise, [0xEE#8]) ∧
    decode [0xD2#8, 0xEE#8] = .ok (.edgeCa2Fall, [0xEE#8]) ∧
    decode [0xD3#8, 0xEE#8] = .ok (.edgeCa2Rise, [0xEE#8]) ∧
    decode [0xD4#8, 0xEE#8] = .ok (.edgeCb1Fall, [0xEE#8]) ∧
    decode [0xD5#8, 0xEE#8] = .ok (.edgeCb1Rise, [0xEE#8]) ∧
    decode [0xD6#8, 0xEE#8] = .ok (.edgeCb2Fall, [0xEE#8]) ∧
    decode [0xD7#8, 0xEE#8] = .ok (.edgeCb2Rise, [0xEE#8]) ∧
    decode [0xD8#8, 0xEE#8] = .ok (.edgePb6Fall, [0xEE#8]) ∧
    decode [0xD9#8, 0xEE#8] = .ok (.edgePb6Rise, [0xEE#8]) :=
  ⟨rfl, rfl, rfl, rfl, rfl, rfl, rfl, rfl, rfl, rfl⟩

/-- R110, 95_test_vectors.md E-12 to E-15. -/
theorem test_decode_rejects_reserved_bytes :
    ∀ cmd ∈ [0x10#8, 0x3F#8, 0x50#8, 0x7F#8, 0x90#8, 0xBF#8, 0xC5#8, 0xCF#8, 0xDA#8, 0xDF#8, 0xE0#8, 0xFF#8],
      decodeCmd cmd = .invalid := by
  decide

/-- R110: 63 command bytes are valid and 193 are not. -/
theorem test_decode_rejects_193_bytes :
    ((List.range 256).filter fun n => decodeCmd (BitVec.ofNat 8 n) == .invalid).length = 193 := by
  decide +kernel

/-- R101: operand bytes that are not there. -/
theorem test_decode_truncated :
    decode [] = .error .noOperation ∧ decode [0x05#8] = .error (.truncated 0x05#8) ∧
    decode (0xC4#8 :: List.replicate 21 0x00#8) = .error (.truncated 0xC4#8) := ⟨rfl, rfl, rfl⟩

theorem test_table_word_of_a_store : decodeTableWord 16 0xA500 = some (.stOrb 0xA5#8) := by decide

theorem test_fetch_runs_the_table_word :
    (next? (step (State.reset.withFetchWord 16 0x3404))).map (·.t1ll) = some 0x34#8 := by decide

/-! ### READ and PEEK at every address: the table of 95_test_vectors.md 2.8 -/

/-- State Q of 95_test_vectors.md 2.8, with its pins. -/
def stateQ : State :=
  { State.reset with
    orb := 0xA5#8, ora := 0x5A#8, ddrb := 0xF0#8, ddra := 0x0F#8, t1c := 0x1230#16, t1ll := 0x34#8, t1lh := 0x12#8,
    t2c := 0x5674#16, t2ll := 0x78#8, sr := 0xC3#8, acr := 0x40#8, ifr := 0xFF#8, ier := 0x7F#8, t1Run := true,
    t2Run := true, srCount := 0, ca2 := false, cb2 := false, paIn := 0xC3#8, pbIn := 0x3C#8 }

theorem test_reads_from_Q :
    [Instr.rdOrb, .rdOra, .rdDdrb, .rdDdra, .rdT1cl, .rdT1ch, .rdT1ll, .rdT1lh, .rdT2cl, .rdT2ch, .rdSr, .rdAcr, .rdPcr,
      .rdIfr, .rdIer, .rdOrax].map (seen · stateQ) =
    [some (.byte 0xAC#8, [.irq true], 0xE7#8), some (.byte 0xCA#8, [.irq true], 0xFC#8),
      some (.byte 0xF0#8, [], 0xFF#8), some (.byte 0x0F#8, [], 0xFF#8),
      some (.byte 0x30#8, [.irq true], 0xBF#8), some (.byte 0x12#8, [], 0xFF#8),
      some (.byte 0x34#8, [], 0xFF#8), some (.byte 0x12#8, [], 0xFF#8),
      some (.byte 0x74#8, [.irq true], 0xDF#8), some (.byte 0x56#8, [], 0xFF#8),
      some (.byte 0xC3#8, [.irq true], 0xFB#8), some (.byte 0x40#8, [], 0xFF#8),
      some (.byte 0x00#8, [], 0xFF#8), some (.byte 0xFF#8, [], 0xFF#8),
      some (.byte 0x7F#8, [], 0xFF#8), some (.byte 0xCA#8, [], 0xFF#8)] := by
  decide

theorem test_read_latches_from_Q :
    [Instr.rdOrb, .rdOra, .rdOrax, .rdIer].map (fun i => (next? (exec i stateQ)).map fun t => (t.ila, t.ilb)) =
    [some (0x00#8, 0x3C#8), some (0xC3#8, 0x00#8), some (0xC3#8, 0x00#8), some (0x00#8, 0x00#8)] := by
  decide

theorem test_peeks_from_Q :
    [Instr.pkOrb, .pkOra, .pkDdrb, .pkDdra, .pkT1cl, .pkT1ch, .pkT1ll, .pkT1lh, .pkT2cl, .pkT2ch, .pkSr, .pkAcr, .pkPcr,
      .pkIfr, .pkIer, .pkOrax].map (fun i => next? (exec i stateQ)) =
    [0xAC#8, 0xCA#8, 0xF0#8, 0x0F#8, 0x30#8, 0x12#8, 0x34#8, 0x12#8, 0x74#8, 0x56#8, 0xC3#8, 0x40#8, 0x00#8, 0xFF#8,
      0x7F#8, 0xCA#8].map (fun v => some { stateQ with events := [], result := .byte v }) := by
  decide

/-! ### STORE at every address: the table of 95_test_vectors.md 2.8 -/

theorem test_stores_events :
    [Instr.stOrb 0xA5#8, .stOra 0x5A#8, .stDdrb 0xF0#8, .stDdra 0x0F#8, .stT1cl 0x34#8, .stT1ch 0x12#8, .stT1ll 0x05#8,
      .stT1lh 0x00#8, .stT2cl 0x78#8, .stT2ch 0x56#8, .stSr 0xC3#8, .stAcr 0x40#8, .stPcr 0xCC#8, .stIer 0xC0#8,
      .stOrax 0x12#8].map (fun i => (next? (exec i State.reset)).map (·.events)) =
    [some [.portB 0xA5#8 0x00#8, .irq false], some [.portA 0x5A#8 0x00#8, .irq false], some [.portB 0x00#8 0xF0#8],
      some [.portA 0x00#8 0x0F#8], some [], some [.irq false], some [], some [.irq false], some [.t2l 0x78#8],
      some [.irq false], some [.sr 0xC3#8, .irq false], some [.acr 0x40#8],
      some [.pcr 0xCC#8, .ca2 false, .cb2 false], some [.irq false], some [.portA 0x12#8 0x00#8]] := by
  decide

theorem test_store_t1ch_loads_and_starts :
    (next? (exec (.stT1ch 0x12#8) { State.reset with t1ll := 0x34#8, t1Fired := true, ifr := 0x40#8 })).map
      (fun t => (t.t1lh, t.t1c, t.t1Run, t.t1Fired, t.ifr)) = some (0x12#8, 0x1234#16, true, false, 0x00#8) := by
  decide

theorem test_store_t2ch_loads_and_starts :
    (next? (exec (.stT2ch 0x56#8) { State.reset with t2ll := 0x78#8, ifr := 0x20#8 })).map
      (fun t => (t.t2c, t.t2Run, t.ifr)) = some (0x5678#16, true, 0x00#8) := by
  decide

/-- T1-11. -/
theorem test_store_t1lh_clears_the_flag :
    (next? (exec (.stT1lh 0x99#8) { State.reset with ifr := 0x40#8 })).map
      (fun t => (t.t1lh, t.ifr, t.t1c, t.t1Run)) = some (0x99#8, 0x00#8, 0x0000#16, false) := by
  decide

/-- 95_test_vectors.md 2.8, row 13. -/
theorem test_store_ifr_masks :
    seen (.stIfr 0x02#8) { State.reset with ifr := 0x82#8, ier := 0x02#8 } = some (.none, [.irq false], 0x00#8) := by
  decide

/-- I-2, I-3, I-4. -/
theorem test_store_ier_sets_and_clears :
    [Instr.stIer 0xFF#8, .stIer 0x02#8, .stIer 0x00#8, .stIer 0x80#8, .stIer 0x7F#8].map
      (fun i => (next? (exec i { State.reset with ier := 0x7F#8 })).map (·.ier)) =
    [some 0x7F#8, some 0x7D#8, some 0x7F#8, some 0x7F#8, some 0x00#8] := by
  decide

/-- SH-7: a changed shift mode halts the shifter. -/
theorem test_store_acr_halts_the_shifter :
    (next? (exec (.stAcr 0x08#8) { State.reset with acr := 0x18#8, sr := 0xC3#8, srCount := 2, srPhase := true })).map
      (fun t => (t.srCount, t.srPhase, t.sr, t.ifr)) = some (8, false, 0xC3#8, 0x00#8) := by
  decide

/-- T2-7: a changed `acr[5]` cancels the pending action. -/
theorem test_store_acr_cancels_timer2 :
    (next? (exec (.stAcr 0x20#8) { State.reset with t2c := 0xFFFF#16, t2Run := true, t2Pend := 1 })).map
      (fun t => (t.t2Pend, t.t2Run, t.t2c, t.events)) = some (0, true, 0xFFFF#16, [.acr 0x20#8]) := by
  decide

/-- H-15: from 0xCC to 0xEE both lines rise; from 0xEE to 0xEF only a polarity changes. -/
theorem test_store_pcr_rederives :
    [(0xCC#8, 0xEE#8), (0xEE#8, 0xEF#8)].map (fun p =>
      (next? (exec (.stPcr p.2) { State.reset with pcr := p.1, ca2 := false, cb2 := false })).map (·.events)) =
    [some [.pcr 0xEE#8, .ca2 true, .cb2 true], some [.pcr 0xEF#8]] := by
  decide

/-- H-9: handshake output on a store. -/
theorem test_handshake_on_store_ora :
    (next? (exec (.stOra 0x11#8) { State.reset with pcr := 0x08#8 })).map (fun t => (t.events, t.ca2)) =
      some ([.portA 0x11#8 0x00#8, .irq false, .ca2 false], false) := by
  decide

/-- H-14: pulse output on a read. -/
theorem test_pulse_on_read_orb :
    seen .rdOrb { State.reset with pcr := 0xA0#8 } =
      some (.byte 0xFF#8, [.irq false, .cb2 false, .cb2 true], 0x00#8) := by
  decide

/-- H-6: a port access leaves the flag of an independent line. -/
theorem test_independent_flag_survives_a_read :
    (next? (exec .rdOra { State.reset with pcr := 0x02#8, ifr := 0x03#8 })).map (·.ifr) = some 0x01#8 := by
  decide

/-! ### EDGE -/

/-- H-1, H-3 and I-8: the flag of each line, by its active edge, `pcr` = 0. -/
theorem test_edges_set_their_flags :
    [Instr.edgeCa1Fall, .edgeCa1Rise, .edgeCa2Fall, .edgeCa2Rise, .edgeCb1Fall, .edgeCb1Rise, .edgeCb2Fall,
      .edgeCb2Rise, .edgePb6Fall, .edgePb6Rise].map (fun i => (next? (exec i State.reset)).map (·.ifr)) =
    [some 0x02#8, some 0x00#8, some 0x01#8, some 0x00#8, some 0x10#8, some 0x00#8, some 0x08#8, some 0x00#8,
      some 0x00#8, some 0x00#8] := by
  decide

/-- H-2, H-3, H-4, H-5: the same with every polarity rising (`pcr` = 0x55). -/
theorem test_edges_follow_the_polarity :
    [Instr.edgeCa1Fall, .edgeCa1Rise, .edgeCa2Fall, .edgeCa2Rise, .edgeCb1Fall, .edgeCb1Rise, .edgeCb2Fall,
      .edgeCb2Rise].map (fun i => (next? (exec i { State.reset with pcr := 0x55#8 })).map (·.ifr)) =
    [some 0x00#8, some 0x02#8, some 0x00#8, some 0x01#8, some 0x00#8, some 0x10#8, some 0x00#8, some 0x08#8] := by
  decide

/-- H-13: an output line ignores its edges. -/
theorem test_output_lines_ignore_edges :
    next? (exec .edgeCa2Fall { State.reset with pcr := 0x08#8 }) =
      some { State.reset with pcr := 0x08#8, events := [] } := by
  decide

/-- PT-4: an active edge loads the latch. -/
theorem test_edge_ca1_latches_port_a :
    (next? (exec .edgeCa1Fall { State.reset with acr := 0x01#8, paIn := 0x0F#8 })).map (·.ila) = some 0x0F#8 := by
  decide

/-- SH-4, the eighth falling edge: the bit goes out and the completion flag is set. -/
theorem test_edge_cb1_shifts_out :
    (next? (exec .edgeCb1Fall { State.reset with acr := 0x1C#8, sr := 0xC0#8, srCount := 7, pcr := 0x10#8 })).map
      (fun t => (t.events, t.sr, t.srCount, t.ifr)) =
      some ([.irq false, .cb2 true, .irq false], 0x81#8, 8, 0x04#8) := by
  decide

/-- T2-4, the edge at which Timer 2 stands at 0. -/
theorem test_edge_pb6_fires_at_zero :
    (next? (exec .edgePb6Fall { State.reset with acr := 0x20#8, ier := 0x20#8, t2Run := true })).map
      (fun t => (t.events, t.t2c, t.t2Run, t.ifr)) = some ([.irq true], 0xFFFF#16, false, 0xA0#8) := by
  decide

/-! ### TICK, for the latencies 1 and 2 -/

/-- T1-7, its second TICK. -/
theorem test_tick_one_shot_latency_1 :
    (fun t : State => (t.t1c, t.t1Run, t.t1Fired, t.ifr, t.events))
      (State.tick 1 1 { State.reset with t1Run := true, events := [] }) =
      (0xFFFF#16, false, true, 0x40#8, [.irq false]) := by
  decide

/-- T1-6, its second TICK: the latency window opens. -/
theorem test_tick_one_shot_latency_2 :
    (fun t : State => (t.t1c, t.t1Pend, t.ifr, t.events))
      (State.tick 2 2 { State.reset with t1Run := true, events := [] }) = (0xFFFF#16, 1, 0x00#8, []) := by
  decide

/-- S4: reload from the latch and toggle. -/
theorem test_tick_continuous_toggles :
    (fun t : State => (t.t1c, t.t1Run, t.t1Out, t.events))
      (State.tick 1 1 { State.reset with acr := 0xC0#8, t1ll := 0x03#8, t1Run := true, events := [] }) =
      (0x0003#16, true, false, [.irq false, .t1out false]) := by
  decide

/-- SH-5: a Timer 2 underflow clocks the shifter in source 1. -/
theorem test_tick_timer2_clocks_the_shifter :
    (fun t : State => (t.events, t.sr, t.srCount, t.ifr, t.t2Run))
      (State.tick 1 1 { State.reset with acr := 0x14#8, sr := 0xC0#8, srCount := 0, t2Run := true, events := [] }) =
      ([.irq false, .cb2 true], 0x81#8, 1, 0x20#8, false) := by
  decide

/-- SH-1: the second of two TICKs shifts. -/
theorem test_tick_cycle_source_shifts :
    (next? (exec .tick { State.reset with acr := 0x18#8, sr := 0xA5#8, srCount := 0, srPhase := true })).map
      (fun t => (t.events, t.sr, t.srCount, t.srPhase)) = some ([.cb2 true], 0x4B#8, 1, false) := by
  decide

/-! ### RESET, INIT and the snapshot -/

/-- R-1. -/
theorem test_reset_events : seen .reset stateQ = some (.none, [.irq false, .adapterReset], 0x00#8) := by decide

/-- R-3. -/
theorem test_init_disables :
    (next? (exec .init stateQ)).map (fun t => (t.t1Run, t.t2Run, t.srCount, t.events)) =
      some (false, false, 8, []) := by
  decide

/-- The payload of SN-1. -/
def payloadSN1 : List Byte := List.replicate 18 0x00#8 ++ [0x30#8, 0x28#8, 0x00#8, 0x00#8]

/-- SN-1. -/
theorem test_snapw_after_reset : (next? (exec .snapw State.reset)).map (·.result) = some (.snapshot payloadSN1) := by
  decide

/-- SN-3. -/
theorem test_snapr_recomputes_the_flag :
    (next? (exec (.snapr ((payloadSN1.set 14 0x40#8).set 15 0xC0#8)) State.reset)).map
      (fun t => (t.result, t.ifr, t.ier, t.events.getLast?)) =
      some (.ok, 0xC0#8, 0x40#8, some (.irqRestore true)) := by
  decide

/-- SN-6 to SN-20 that end in `format_error`, for latencies 2 and 2. -/
theorem test_snapr_rejects :
    [payloadSN1.set 18 0x70#8, payloadSN1.set 18 0xB0#8, payloadSN1.set 19 0x68#8, payloadSN1.set 19 0x29#8,
      payloadSN1.set 19 0x2F#8, payloadSN1.set 18 0x38#8, payloadSN1.set 12 0x20#8, payloadSN1.set 20 0x01#8,
      (payloadSN1.set 20 0x02#8).set 18 0x31#8, payloadSN1.set 21 0x01#8,
      ((payloadSN1.set 21 0x01#8).set 18 0x3C#8).set 12 0x20#8, payloadSN1.set 18 0x33#8,
      [], payloadSN1.take 21, payloadSN1 ++ [0x00#8]].all (fun b => !snapValid 2 2 b) = true := by
  decide

/-- SN-9, SN-12, SN-14, SN-17, SN-20, for latencies 2 and 2. -/
theorem test_snapr_accepts :
    [payloadSN1, payloadSN1.set 19 0x38#8, (payloadSN1.set 12 0x20#8).set 18 0x38#8,
      (payloadSN1.set 20 0x01#8).set 18 0x31#8, (payloadSN1.set 21 0x01#8).set 18 0x34#8,
      payloadSN1.set 18 0x32#8].all (snapValid 2 2) = true := by
  decide

/-! ### A witness for each statement that has hypotheses -/

/-- A legal state in which most things are in use: Timer 1 runs and has interrupted, pair A is in HANDSHAKE mode, pair B
in PULSE mode. -/
def live : State :=
  { stateQ with ifr := 0xC0#8, pcr := 0xA8#8, ca2 := true, cb2 := true, stream := [0x05#8, 0x12#8, 0xC0#8] }

theorem witness_SequencersLegal : SequencersLegal live :=
  ⟨by decide, Nat.zero_le _, by decide, Nat.zero_le _, by decide, by decide⟩

theorem witness_Legal : Legal live := ⟨witness_SequencersLegal, by decide, by decide⟩

theorem witness_StepPerformsTheDecodedOperation : decode live.stream = .ok (.stT1ch 0x12#8, [0xC0#8]) := rfl

theorem witness_CommandBytes_refused :
    ∀ cmd ∈ [0x10#8, 0x3F#8, 0x50#8, 0x7F#8, 0x90#8, 0xBF#8, 0xC5#8, 0xCF#8, 0xDA#8, 0xFF#8],
      ({ live with stream := cmd :: [] } : State).stream = cmd :: [] ∧ NamesNoOperation cmd := by
  unfold NamesNoOperation
  decide

theorem witness_CommandBytes_accepted :
    ∀ cmd ∈ [0x00#8, 0x0F#8, 0x40#8, 0x4F#8, 0x80#8, 0x8F#8, 0xC0#8, 0xC3#8, 0xD0#8, 0xD9#8],
      ({ live with stream := cmd :: [0x00#8] } : State).stream = cmd :: [0x00#8] ∧ ¬ NamesNoOperation cmd ∧
      operationLength cmd ≤ [0x00#8].length + 1 := by
  unfold NamesNoOperation
  decide

theorem witness_CommandBytes_snapr : ¬ NamesNoOperation 0xC4#8 ∧ operationLength 0xC4#8 ≤ payloadSN1.length + 1 := by
  unfold NamesNoOperation
  decide

theorem witness_DecodeOfEncode : (Instr.snapr payloadSN1).wellFormed = true ∧ (Instr.stOrb 0xFF#8).wellFormed = true := by
  decide

theorem witness_EncodeOfDecode :
    decode (0xC4#8 :: payloadSN1 ++ [0xC0#8]) = .ok (.snapr payloadSN1, [0xC0#8]) := rfl

theorem witness_LengthIsDecidedByTheCommandByte :
    decode [0x0F#8, 0x01#8] = .ok (.stOrax 0x01#8, []) ∧ decode [0x40#8, 0x01#8] = .ok (.rdOrb, [0x01#8]) ∧
    decode (0xC4#8 :: payloadSN1) = .ok (.snapr payloadSN1, []) ∧ decode [0xC3#8] = .ok (.snapw, []) :=
  ⟨rfl, rfl, rfl, rfl⟩

theorem witness_PeekReturnsWhatReadReturns :
    (2#4).toNat ∈ [2, 3, 5, 6, 7, 9, 11, 12, 13, 14] ∧ (14#4).toNat ∈ [2, 3, 5, 6, 7, 9, 11, 12, 13, 14] := by
  decide

theorem witness_PortReadsNeverSurfacePins : live.ddrb.getLsbD 7 = true ∧ live.ddra.getLsbD 0 = true := by decide

theorem witness_DrivenPins :
    (next? (exec (.stOrb 0x80#8) live)).isSome = true ∧ (next? (exec (.stDdra 0x01#8) live)).isSome = true := by
  decide

theorem witness_IdleTick :
    State.reset.t1Run = false ∧ State.reset.t2Run = false ∧ shiftSource State.reset ≠ 2 ∧ State.reset.srCount = 8 ∧
    shiftSource { State.reset with acr := 0x08#8 } = 2 := by
  decide

/-- Both timers in the last cycle of their latency windows. -/
def bothDue : State := { stateQ with t1Pend := 1, t2Pend := 1 }

theorem witness_BothTimersDue :
    timer1Due bothDue = true ∧ timer2Due bothDue = true ∧ shiftDue bothDue = false ∧ bothDue.acr.getLsbD 7 = false := by
  decide

theorem witness_Timer1OneShot :
    ∃ loaded : State, exec (.stT1ch 0x00#8) State.reset = .next loaded ∧ State.reset.acr.getLsbD 6 = false ∧
      0 < (0x00#8 ++ State.reset.t1ll).toNat + Config.t1Latency :=
  ⟨_, rfl, by decide, Nat.add_pos_right _ Config.t1Latency_pos⟩

theorem witness_Timer1Continuous :
    ∃ loaded : State, exec (.stT1ch 0x12#8) stateQ = .next loaded ∧ stateQ.acr.getLsbD 6 = true ∧
      0 < (0x12#8 ++ stateQ.t1ll).toNat + Config.t1Latency :=
  ⟨_, rfl, by decide, Nat.add_pos_right _ Config.t1Latency_pos⟩

theorem witness_Timer2Timed :
    ∃ loaded : State, exec (.stT2ch 0x00#8) State.reset = .next loaded ∧ State.reset.acr.getLsbD 5 = false ∧
      0 < (0x00#8 ++ State.reset.t2ll).toNat + Config.t2Latency :=
  ⟨_, rfl, by decide, Nat.add_pos_right _ Config.t2Latency_pos⟩

/-- Timer 2 counts pulses. -/
def pulsing : State := { stateQ with acr := 0x20#8 }

theorem witness_Timer2Pulse :
    ∃ loaded : State, exec (.stT2ch 0x00#8) pulsing = .next loaded ∧ pulsing.acr.getLsbD 5 = true ∧
      0 ≤ (0x00#8 ++ pulsing.t2ll).toNat ∧ (0x00#8 ++ pulsing.t2ll).toNat < 0x79 :=
  ⟨_, rfl, by decide, Nat.zero_le _, by decide⟩

theorem witness_ShiftOut :
    ∃ loaded : State, exec (.stSr 0xA5#8) { stateQ with acr := 0x18#8 } = .next loaded ∧
      ({ stateQ with acr := 0x18#8 } : State).acr &&& 0x1C#8 = 0x18#8 :=
  ⟨_, rfl, by decide⟩

theorem witness_ShiftIn :
    ∃ loaded : State, exec .rdSr { stateQ with acr := 0x0C#8 } = .next loaded ∧
      ({ stateQ with acr := 0x0C#8 } : State).acr &&& 0x1C#8 = 0x0C#8 ∧ stateQ.pcr.getLsbD 7 = false ∧
      [true, true, false, false, true, false, true, false].length = 8 :=
  ⟨_, rfl, by decide, by decide, rfl⟩

theorem witness_ResetForgets :
    stateQ ≠ pulsing ∧ stateQ.paIn = pulsing.paIn ∧ stateQ.pbIn = pulsing.pbIn ∧ stateQ.pinFeed = pulsing.pinFeed ∧
    stateQ.stream = pulsing.stream ∧ stateQ.draws = pulsing.draws := by
  decide

theorem witness_SnapshotWrite :
    State.reset.srCount ≤ 8 ∧ ({ live with t1Pend := 255 } : State).t1Pend < 256 ∧ live.t2Pend < 256 := by
  decide

theorem witness_MalformedSnapshots :
    (payloadSN1.take 21).length ≠ 22 ∧ 64 ≤ ((payloadSN1.set 18 0x40#8).getD 18 0#8).toNat ∧
    64 ≤ ((payloadSN1.set 19 0x40#8).getD 19 0#8).toNat ∧ 8 < ((payloadSN1.set 19 0x29#8).getD 19 0#8).toNat % 16 ∧
    ((payloadSN1.set 18 0x38#8).getD 18 0#8).getLsbD 3 ≠ ((payloadSN1.set 18 0x38#8).getD 12 0#8).getLsbD 5 ∧
    (0 < ((payloadSN1.set 20 0x01#8).getD 20 0#8).toNat ∧
      ((payloadSN1.set 20 0x01#8).getD 18 0#8).getLsbD 0 = false) ∧
    (0 < ((payloadSN1.set 21 0x01#8).getD 21 0#8).toNat ∧
      ((payloadSN1.set 21 0x01#8).getD 18 0#8).getLsbD 2 = false) ∧
    (((payloadSN1.set 18 0x33#8).getD 18 0#8).getLsbD 1 = true ∧
      ((payloadSN1.set 18 0x33#8).getD 18 0#8).getLsbD 0 = true) := by
  decide

/-- Conditions (e): 255 is above every L1 - 1 and every L2 - 1. -/
theorem witness_MalformedSnapshots_pending :
    Config.t1Latency - 1 < ((payloadSN1.set 20 0xFF#8).getD 20 0#8).toNat ∧
    Config.t2Latency - 1 < ((payloadSN1.set 21 0xFF#8).getD 21 0#8).toNat :=
  ⟨Nat.lt_of_le_of_lt (Nat.sub_le_sub_right Config.t1Latency_le 1) (by decide),
    Nat.lt_of_le_of_lt (Nat.sub_le_sub_right Config.t2Latency_le 1) (by decide)⟩

/-- Bytes 18 to 21 of SN-20, with byte 12 at 0. -/
theorem witness_ValidSnapshots :
    (0x32#8).toNat < 64 ∧ (0x28#8).toNat < 64 ∧ (0x28#8).toNat % 16 ≤ 8 ∧
    (0x32#8).getLsbD 3 = (0x00#8).getLsbD 5 ∧ (0x00#8).toNat ≤ Config.t1Latency - 1 ∧
    (0x00#8).toNat ≤ Config.t2Latency - 1 ∧ (0 < (0x00#8).toNat → (0x32#8).getLsbD 0 = true) ∧
    (0 < (0x00#8).toNat → (0x32#8).getLsbD 2 = true ∧ (0x00#8).getLsbD 5 = false) ∧
    ((0x32#8).getLsbD 1 = true → (0x32#8).getLsbD 0 = false) ∧ payloadSN1.length = 22 :=
  ⟨by decide, by decide, by decide, by decide, Nat.zero_le _, Nat.zero_le _, by decide, by decide, by decide, by decide⟩

theorem witness_StepsKeepTheStateLegal :
    Legal live ∧ (∃ t : State, step live = .next t) ∧ ∀ rest, decode live.stream ≠ .ok (.init, rest) :=
  ⟨witness_Legal, ⟨_, rfl⟩, fun _ h => by cases h⟩

/-- The step performs INIT. -/
theorem witness_StepsKeepTheSequencersLegal :
    SequencersLegal { live with stream := [0xC2#8] } ∧ ∃ t : State, step { live with stream := [0xC2#8] } = .next t :=
  ⟨⟨by decide, Nat.zero_le _, by decide, Nat.zero_le _, by decide, by decide⟩, ⟨_, rfl⟩⟩

theorem witness_ResetAndRestore :
    ∃ t : State, exec (.snapr payloadSN1) stateQ = .next t ∧ t.result = .ok := ⟨_, rfl, by decide⟩

/-- In `live` CA2 and CB2 are outputs, in `stateQ` inputs. -/
theorem witness_LevelOutputs :
    Instr.stOra 0x00#8 ≠ .init ∧ (next? (exec (.stOra 0x00#8) live)).isSome = true ∧
    commandIn (.stOra 0x00#8) [0xC1#8, 0xC2#8, 0xC4#8] = false ∧
    commandIn (.stOra 0x00#8) [0xD2#8, 0xD3#8] = false ∧ commandIn (.stOra 0x00#8) [0xD6#8, 0xD7#8] = false ∧
    commandIn .edgeCa2Rise [0xD2#8, 0xD3#8] = true ∧ live.pcr.getLsbD 3 = true ∧ stateQ.pcr.getLsbD 3 = false ∧
    commandIn .edgeCb2Fall [0xD6#8, 0xD7#8] = true ∧ live.pcr.getLsbD 7 = true ∧ stateQ.pcr.getLsbD 7 = false ∧
    (next? (exec .edgeCa2Rise stateQ)).isSome = true ∧ (next? (exec .edgeCb2Fall stateQ)).isSome = true ∧
    commandIn (.stPcr 0xCC#8) [0xC1#8, 0xC2#8, 0xC4#8] = false ∧
    (next? (exec (.stPcr 0xCC#8) stateQ)).map (fun t => (t.pcr.getLsbD 3, t.pcr.getLsbD 7)) = some (true, true) := by
  decide

/-- R193, R195, R381: an edge on an input line moves its level and reports none. -/
theorem test_edges_of_input_lines_report_no_level :
    [Instr.edgeCa2Rise, .edgeCb2Rise].map (fun i => (next? (exec i stateQ)).map fun t =>
      (t.ca2Out, t.cb2Out, t.events)) = [some (true, false, [.irq true]), some (false, true, [.irq true])] := by
  decide

theorem witness_OnlyTheNamedOperations :
    (next? (exec .rdOrb live)).isSome = true ∧
    commandIn .rdOrb [0x05#8, 0xC0#8, 0xC1#8, 0xC2#8, 0xC4#8] = false ∧
    (next? (exec (.stT1ch 0x00#8) live)).isSome = true ∧
    commandIn (.stT1ch 0x00#8) [0x09#8, 0x0B#8, 0xC0#8, 0xC1#8, 0xC2#8, 0xC4#8, 0xD8#8] = false := by
  decide

theorem witness_RegistersAreWritten :
    (next? (exec .tick live)).isSome = true ∧ commandIn .tick [0xC1#8, 0xC2#8, 0xC4#8] = false ∧
    ∀ cmds ∈ [[0x00#8], [0x01#8, 0x0F#8], [0x02#8], [0x03#8], [0x04#8, 0x06#8], [0x05#8, 0x07#8], [0x08#8], [0x0B#8],
      [0x0C#8], [0x0E#8]], commandIn .tick cmds = false := by
  decide

theorem witness_PinsMatter :
    samplesPortA .rdOrb = false ∧ samplesPortB .rdOra = false ∧
    ({ live with acr := 0x03#8 } : State).acr.getLsbD 0 = true ∧ Instr.rdOra ≠ .edgeCa1Fall ∧ Instr.rdOra ≠ .edgeCa1Rise ∧
    ({ live with acr := 0x03#8 } : State).acr.getLsbD 1 = true ∧ Instr.rdOrb ≠ .edgeCb1Fall ∧
    Instr.rdOrb ≠ .edgeCb1Rise := by
  decide

theorem witness_OperationsLeave :
    (next? (exec .snapw live)).isSome = true ∧ commandIn .snapw [0xC1#8, 0xC2#8] = false := by
  decide

theorem witness_PulseMode : modeA { live with pcr := 0xAA#8 } = 5 ∧ modeB live = 5 := by decide

theorem witness_HandshakeLine :
    modeA live = 4 ∧ (next? (exec (.stOra 0x00#8) live)).isSome = true ∧
    commandIn (.stOra 0x00#8) [0x01#8, 0x41#8] = true ∧ (next? (exec .edgeCa1Fall live)).isSome = true ∧
    commandIn .edgeCa1Fall [0x01#8, 0x41#8, 0x0C#8, 0xC1#8, 0xC2#8, 0xC4#8] = false := by
  decide

end Sys2Proof.Tests
end

section
/-! The step and the two views of the state that the laws over all operations speak of: the registers that only their
own STORE writes, and the sequencers of the timers and the shifter (10_state.md R41). -/

namespace Sys2Proof.Machine

open Sys2Proof.Safety

/-- A step that goes on performs the operation the stream holds. -/
theorem step_next {s t : State} (h : step s = .next t) :
    ∃ i rest, decode s.stream = .ok (i, rest) ∧ exec i (s.present rest) = .next t := by
  unfold step at h
  split at h
  next i rest hdecode => exact ⟨i, rest, hdecode, h⟩
  next => cases h

/-- The fields that 10_state.md R41 (c) to (f) speak of. -/
structure Sequencers where
  srCount : Nat
  t1Run : Bool
  t1Fired : Bool
  t1Pend : Nat
  t2Run : Bool
  t2Pend : Nat
  acr : Byte

def State.sequencers (s : State) : Sequencers :=
  ⟨s.srCount, s.t1Run, s.t1Fired, s.t1Pend, s.t2Run, s.t2Pend, s.acr⟩

/-- R41 (c) to (f) depends on the sequencers alone. -/
theorem sequencersLegal_of_sequencers_eq {s t : State} (hs : SequencersLegal s) (h : t.sequencers = s.sequencers) :
    SequencersLegal t := by
  simp only [State.sequencers, Sequencers.mk.injEq] at h
  obtain ⟨hcount, hrun1, hfired, hpend1, hrun2, hpend2, hacr⟩ := h
  constructor
  · exact hcount ▸ hs.srCount_le
  · exact hpend1 ▸ hs.t1Pend_le
  · exact hpend1 ▸ hrun1 ▸ hs.t1Pend_run
  · exact hpend2 ▸ hs.t2Pend_le
  · exact hpend2 ▸ hrun2 ▸ hacr ▸ hs.t2Pend_run
  · exact hfired ▸ hrun1 ▸ hs.t1Fired_stopped

/-- A block with its timers stopped, nothing pending and the shifter halted meets R41 (c) to (f). -/
theorem sequencersLegal_of_halted {s : State} (hcount : s.srCount = 8) (hrun : s.t1Run = false) (hpend1 : s.t1Pend = 0)
    (hpend2 : s.t2Pend = 0) : SequencersLegal s := by
  constructor <;> simp [hcount, hrun, hpend1, hpend2]

/-! ### Procedures that leave the sequencers alone -/

theorem loadInputLatchA_sequencers (s : State) : s.loadInputLatchA.sequencers = s.sequencers := by
  rw [loadInputLatchA_eq]; rfl

theorem loadInputLatchB_sequencers (s : State) : s.loadInputLatchB.sequencers = s.sequencers := by
  rw [loadInputLatchB_eq]; rfl

theorem rederiveA_sequencers (old new : Byte) (s : State) : (s.rederiveA old new).sequencers = s.sequencers := by
  unfold State.rederiveA
  split <;> rfl

theorem rederiveB_sequencers (old new : Byte) (s : State) : (s.rederiveB old new).sequencers = s.sequencers := by
  unfold State.rederiveB
  split <;> rfl

theorem edgeCa1_sequencers (level : Bool) (s : State) : (s.edgeCa1 level).sequencers = s.sequencers := by
  unfold State.edgeCa1
  split <;> rfl

theorem edgeCa2_sequencers (level : Bool) (s : State) : (s.edgeCa2 level).sequencers = s.sequencers := by
  unfold State.edgeCa2
  split <;> rfl

theorem edgeCb2_sequencers (level : Bool) (s : State) : (s.edgeCb2 level).sequencers = s.sequencers := by
  unfold State.edgeCb2
  split <;> rfl

/-! ### The shifter -/

theorem afterShift_keeps_sequencers {s : State} (hs : SequencersLegal s) (hcount : s.srCount < 8) :
    SequencersLegal (afterShift s) :=
  { hs with srCount_le := hcount }

theorem srTimer2Edge_keeps_sequencers {s : State} (hs : SequencersLegal s) : SequencersLegal s.srTimer2Edge := by
  rw [srTimer2Edge_eq]
  split
  next h => exact afterShift_keeps_sequencers hs h.2
  next => exact hs

theorem srExtEdge_keeps_sequencers {s : State} (hs : SequencersLegal s) (level : Bool) :
    SequencersLegal (s.srExtEdge level) := by
  rw [srExtEdge_eq]
  split
  next h => exact afterShift_keeps_sequencers hs h.2.1
  next => exact hs

theorem tickSr_keeps_sequencers {s : State} (hs : SequencersLegal s) : SequencersLegal s.tickSr := by
  rw [tickSr_eq]
  split
  next h =>
    split
    · exact afterShift_keeps_sequencers (sequencersLegal_of_sequencers_eq hs rfl) h.2
    · exact sequencersLegal_of_sequencers_eq hs rfl
  next => exact hs

theorem edgeCb1_keeps_sequencers {s : State} (hs : SequencersLegal s) (level : Bool) :
    SequencersLegal (s.edgeCb1 level) := by
  unfold State.edgeCb1
  split
  · refine srExtEdge_keeps_sequencers ?_ level
    exact sequencersLegal_of_sequencers_eq hs rfl
  · refine srExtEdge_keeps_sequencers ?_ level
    exact sequencersLegal_of_sequencers_eq hs rfl

/-! ### The timers -/

/-- R134: an action comes with nothing pending; in one-shot mode it stops the timer. -/
theorem t1Action_keeps_sequencers {s : State} (hs : SequencersLegal s) (hpend : s.t1Pend = 0) :
    SequencersLegal s.t1Action := by
  rw [t1Action_eq]
  have hfired := hs.t1Fired_stopped
  constructor
  case t1Pend_run => simp [hpend]
  case t1Fired_stopped => cases s.acr.getLsbD 6 <;> simp_all
  case srCount_le => exact hs.srCount_le
  case t1Pend_le => exact hs.t1Pend_le
  case t2Pend_le => exact hs.t2Pend_le
  case t2Pend_run => exact hs.t2Pend_run

theorem tickT1_keeps_sequencers {s : State} (hs : SequencersLegal s) :
    SequencersLegal (s.tickT1 Config.t1Latency) := by
  have hle := hs.t1Pend_le
  rw [tickT1_eq]
  split
  · refine t1Action_keeps_sequencers ?_ rfl
    exact { hs with t1Pend_le := Nat.zero_le _, t1Pend_run := fun h => absurd h (Nat.lt_irrefl 0) }
  · refine { hs with t1Pend_le := ?_, t1Pend_run := ?_ }
    · dsimp only
      split_ifs <;> omega
    · have hrun := hs.t1Pend_run
      dsimp only
      cases hr : s.t1Run <;> simp_all

theorem t2Action_keeps_sequencers {s : State} (hs : SequencersLegal s) : SequencersLegal s.t2Action := by
  rw [t2Action_eq]
  refine srTimer2Edge_keeps_sequencers ?_
  exact { hs with t2Pend_le := Nat.zero_le _, t2Pend_run := fun h => absurd h (Nat.lt_irrefl 0) }

theorem timer2Counts_iff (s : State) :
    timer2Counts s = true ↔ s.t2Run = true ∧ s.acr.getLsbD 5 = false := by
  simp [timer2Counts]

theorem tickT2_keeps_sequencers {s : State} (hs : SequencersLegal s) :
    SequencersLegal (s.tickT2 Config.t2Latency) := by
  have hle := hs.t2Pend_le
  rw [tickT2_eq]
  split
  · refine t2Action_keeps_sequencers ?_
    exact { hs with t2Pend_le := Nat.zero_le _, t2Pend_run := fun h => absurd h (Nat.lt_irrefl 0) }
  · refine { hs with t2Pend_le := ?_, t2Pend_run := ?_ }
    · dsimp only
      split_ifs <;> omega
    · intro hpend
      cases hcounts : timer2Counts s
      · exact hs.t2Pend_run (by simpa [hcounts] using hpend)
      · exact (timer2Counts_iff s).1 hcounts

theorem tick_keeps_sequencers {s : State} (hs : SequencersLegal s) :
    SequencersLegal (s.tick Config.t1Latency Config.t2Latency) :=
  tickSr_keeps_sequencers (tickT2_keeps_sequencers (tickT1_keeps_sequencers hs))

theorem edgePb6_keeps_sequencers {s : State} (hs : SequencersLegal s) (level : Bool) :
    SequencersLegal (s.edgePb6 level) := by
  unfold State.edgePb6
  split
  · split
    · exact t2Action_keeps_sequencers (sequencersLegal_of_sequencers_eq hs rfl)
    · exact sequencersLegal_of_sequencers_eq hs rfl
  · exact hs

/-! ### Stores of ACR -/

/-- R251: what was legal under the old ACR stays so under the new one, since a change of `acr[5]` cancels a pending
Timer 2 action (40_timers.md R143). -/
theorem acrTimer2Change_keeps_sequencers {s : State} {old new : Byte} (hs : SequencersLegal { s with acr := old })
    (hnew : s.acr = new) : SequencersLegal (s.acrTimer2Change old new) := by
  subst hnew
  unfold State.acrTimer2Change
  split
  next hsame =>
    have hbit : s.acr.getLsbD 5 = old.getLsbD 5 := hsame.symm
    exact { hs with t2Pend_run := fun hpend => hbit ▸ hs.t2Pend_run hpend }
  next => exact { hs with t2Pend_le := Nat.zero_le _, t2Pend_run := fun h => absurd h (Nat.lt_irrefl 0) }

theorem stAcr_keeps_sequencers {s t : State} {v : Byte} (hs : SequencersLegal s) (h : execStAcr v s = .next t) :
    SequencersLegal t := by
  cases h
  unfold State.acrShiftChange
  split
  · refine acrTimer2Change_keeps_sequencers ?_ rfl
    exact sequencersLegal_of_sequencers_eq hs rfl
  · refine acrTimer2Change_keeps_sequencers ?_ rfl
    exact { hs with srCount_le := Nat.le_refl 8 }

/-! ### The combined flag and the enables -/

/-- 10_state.md R41 (a) and (b), R33. -/
structure FlagsLegal (s : State) : Prop where
  combined : s.ifr.getLsbD 7 = request s.ifr s.ier
  ier7 : s.ier.getLsbD 7 = false

theorem request_iff (ifr ier : Byte) : request ifr ier = true ↔ ifr &&& ier &&& 0x7F#8 ≠ 0#8 := by
  simp [request]

theorem legal_iff (s : State) : Legal s ↔ SequencersLegal s ∧ FlagsLegal s := by
  constructor
  · intro h
    exact ⟨h.toSequencersLegal, Bool.eq_iff_iff.2 (h.combined.trans (request_iff _ _).symm), h.ier7⟩
  · rintro ⟨hseq, hcombined, hier⟩
    exact { hseq with combined := hcombined ▸ request_iff _ _, ier7 := hier }

/-- The flags and the enables, and nothing else, decide R41 (a) and (b). -/
theorem flagsLegal_of_same {s t : State} (hs : FlagsLegal s) (hifr : t.ifr = s.ifr) (hier : t.ier = s.ier) :
    FlagsLegal t where
  combined := by rw [hifr, hier, hs.combined]
  ier7 := hier ▸ hs.ier7

/-- R174: flags written through the combinator satisfy R33, whatever they were before. -/
theorem flagsLegal_of_combine {t : State} {f : Byte} (hifr : t.ifr = combine f t.ier) (hier : t.ier.getLsbD 7 = false) :
    FlagsLegal t where
  combined := by
    rw [hifr, combine_getLsbD_seven]
    exact request_of_low_bits _ (combine_low_bits _ _).symm
  ier7 := hier

theorem flagsLegal_irqUpdate {s : State} (hier : s.ier.getLsbD 7 = false) : FlagsLegal s.irqUpdate :=
  flagsLegal_of_combine (recomputed_eq_combine s.ifr s.ier) hier

theorem flagsLegal_ifrClear {s : State} (hs : FlagsLegal s) (m : Byte) : FlagsLegal (s.ifrClear m) :=
  flagsLegal_irqUpdate hs.ier7

/-! ### Procedures that change the flags, if at all, through the combinator -/

theorem loadInputLatchA_keeps_flags {s : State} (hs : FlagsLegal s) : FlagsLegal s.loadInputLatchA := by
  rw [loadInputLatchA_eq]
  exact flagsLegal_of_same hs rfl rfl

theorem loadInputLatchB_keeps_flags {s : State} (hs : FlagsLegal s) : FlagsLegal s.loadInputLatchB := by
  rw [loadInputLatchB_eq]
  exact flagsLegal_of_same hs rfl rfl

theorem hsAccessA_keeps_flags {s : State} (hs : FlagsLegal s) : FlagsLegal s.hsAccessA := flagsLegal_of_same hs rfl rfl

theorem hsAccessB_keeps_flags {s : State} (hs : FlagsLegal s) : FlagsLegal s.hsAccessB := flagsLegal_of_same hs rfl rfl

theorem rederiveA_keeps_flags {s : State} (hs : FlagsLegal s) (old new : Byte) : FlagsLegal (s.rederiveA old new) := by
  unfold State.rederiveA
  split
  · exact hs
  · exact flagsLegal_of_same hs rfl rfl

theorem rederiveB_keeps_flags {s : State} (hs : FlagsLegal s) (old new : Byte) : FlagsLegal (s.rederiveB old new) := by
  unfold State.rederiveB
  split
  · exact hs
  · exact flagsLegal_of_same hs rfl rfl

theorem edgeCa1_keeps_flags {s : State} (hs : FlagsLegal s) (level : Bool) : FlagsLegal (s.edgeCa1 level) := by
  unfold State.edgeCa1
  split <;> exact flagsLegal_irqUpdate hs.ier7

theorem edgeCa2_keeps_flags {s : State} (hs : FlagsLegal s) (level : Bool) : FlagsLegal (s.edgeCa2 level) := by
  unfold State.edgeCa2
  split
  · exact flagsLegal_irqUpdate hs.ier7
  · exact hs

theorem edgeCb2_keeps_flags {s : State} (hs : FlagsLegal s) (level : Bool) : FlagsLegal (s.edgeCb2 level) := by
  unfold State.edgeCb2
  split
  · exact flagsLegal_irqUpdate hs.ier7
  · exact hs

theorem afterShift_keeps_flags {s : State} (hs : FlagsLegal s) : FlagsLegal (afterShift s) := by
  by_cases hlast : s.srCount = 7
  · exact flagsLegal_of_combine (if_pos hlast) hs.ier7
  · exact flagsLegal_of_same hs (if_neg hlast) rfl

theorem srTimer2Edge_keeps_flags {s : State} (hs : FlagsLegal s) : FlagsLegal s.srTimer2Edge := by
  rw [srTimer2Edge_eq]
  split
  · exact afterShift_keeps_flags hs
  · exact hs

theorem srExtEdge_keeps_flags {s : State} (hs : FlagsLegal s) (level : Bool) : FlagsLegal (s.srExtEdge level) := by
  rw [srExtEdge_eq]
  split
  · exact afterShift_keeps_flags hs
  · exact hs

theorem edgeCb1_keeps_flags {s : State} (hs : FlagsLegal s) (level : Bool) : FlagsLegal (s.edgeCb1 level) := by
  unfold State.edgeCb1
  split
  · refine srExtEdge_keeps_flags ?_ level
    exact flagsLegal_irqUpdate hs.ier7
  · exact srExtEdge_keeps_flags (flagsLegal_irqUpdate hs.ier7) level

theorem tickSr_keeps_flags {s : State} (hs : FlagsLegal s) : FlagsLegal s.tickSr := by
  rw [tickSr_eq]
  split
  · split
    · exact afterShift_keeps_flags (flagsLegal_of_same hs rfl rfl)
    · exact flagsLegal_of_same hs rfl rfl
  · exact hs

theorem t1Action_keeps_flags {s : State} (hs : FlagsLegal s) : FlagsLegal s.t1Action := by
  rw [t1Action_eq]
  exact flagsLegal_of_combine rfl hs.ier7

theorem tickT1_keeps_flags {s : State} (hs : FlagsLegal s) (l1 : Nat) : FlagsLegal (s.tickT1 l1) := by
  rw [tickT1_eq]
  split
  · exact t1Action_keeps_flags (flagsLegal_of_same hs rfl rfl)
  · exact flagsLegal_of_same hs rfl rfl

theorem t2Action_keeps_flags {s : State} (hs : FlagsLegal s) : FlagsLegal s.t2Action := by
  rw [t2Action_eq]
  refine srTimer2Edge_keeps_flags ?_
  exact flagsLegal_of_combine rfl hs.ier7

theorem tickT2_keeps_flags {s : State} (hs : FlagsLegal s) (l2 : Nat) : FlagsLegal (s.tickT2 l2) := by
  rw [tickT2_eq]
  split
  · exact t2Action_keeps_flags (flagsLegal_of_same hs rfl rfl)
  · exact flagsLegal_of_same hs rfl rfl

theorem tick_keeps_flags {s : State} (hs : FlagsLegal s) (l1 l2 : Nat) : FlagsLegal (s.tick l1 l2) :=
  tickSr_keeps_flags (tickT2_keeps_flags (tickT1_keeps_flags hs l1) l2)

theorem edgePb6_keeps_flags {s : State} (hs : FlagsLegal s) (level : Bool) : FlagsLegal (s.edgePb6 level) := by
  unfold State.edgePb6
  split
  · split
    · exact t2Action_keeps_flags (flagsLegal_of_same hs rfl rfl)
    · exact flagsLegal_of_same hs rfl rfl
  · exact hs

theorem acrChange_keeps_flags {s : State} (hs : FlagsLegal s) (old new : Byte) :
    FlagsLegal ((s.acrShiftChange old new).acrTimer2Change old new) := by
  unfold State.acrTimer2Change State.acrShiftChange
  split <;> split <;> exact flagsLegal_of_same hs rfl rfl

/-- R254: no store writes bit 7 of the enables. -/
theorem enablesAfter_getLsbD_seven (ier v : Byte) : (enablesAfter ier v).getLsbD 7 = ier.getLsbD 7 := by
  unfold enablesAfter
  split <;> simp

/-! ### RESET and SNAPR establish R41 from any state -/

theorem reset_legal (s : State) : ∃ t, exec .reset s = .next t ∧ Legal t := by
  refine ⟨_, rfl, (legal_iff _).2 ⟨?_, ?_⟩⟩
  · exact sequencersLegal_of_halted rfl rfl rfl rfl
  · exact flagsLegal_of_combine (recomputed_eq_combine _ _) (BitVec.getLsbD_zero (i := 7))

/-- R325 (a) to (h) are what R41 asks of the restored fields. -/
theorem restore_legal {b : List Byte} (h : snapValid Config.t1Latency Config.t2Latency b = true) (s : State) :
    Legal (s.restore b) := by
  obtain ⟨-, -, hcount, -, ⟨hle1, hle2⟩, hrun1, hrun2, hfired⟩ := (snapValid_iff _ _ _).1 h
  refine (legal_iff _).2 ⟨?_, ?_⟩
  · exact {
      srCount_le := (low_nibble_toNat _).trans_le hcount
      t1Pend_le := hle1
      t1Pend_run := hrun1
      t2Pend_le := hle2
      t2Pend_run := hrun2
      t1Fired_stopped := hfired }
  · exact flagsLegal_of_combine (recomputed_eq_combine _ _) (by simp [State.restore])

/-- R326: a payload is restored whole, or refused with the block unchanged. -/
theorem snapr_cases {b : List Byte} {s t : State} (h : exec (.snapr b) s = .next t) :
    (snapValid Config.t1Latency Config.t2Latency b = true ∧ t = (s.begin.restore b).emitUndump.returnOk) ∨
      t = s.formatError := by
  cases h
  by_cases hvalid : snapValid Config.t1Latency Config.t2Latency b = true
  · exact .inl ⟨hvalid, snapshotRead_of_valid hvalid s⟩
  · exact .inr (snapshotRead_of_not_valid (by simpa using hvalid) s)

theorem restored_legal {b : List Byte} (h : snapValid Config.t1Latency Config.t2Latency b = true) (s : State) :
    Legal (s.begin.restore b).emitUndump.returnOk := by
  have hrestored := (legal_iff _).1 (restore_legal h s.begin)
  exact (legal_iff _).2 ⟨sequencersLegal_of_sequencers_eq hrestored.1 rfl, flagsLegal_of_same hrestored.2 rfl rfl⟩

/-! ### Every operation -/

/-- R41 (c) to (f), by the operation: those that touch no sequencer, and the others by the law of their procedure. -/
theorem exec_keeps_sequencers {i : Instr} {s t : State} (hs : SequencersLegal s) (h : exec i s = .next t) :
    SequencersLegal t := by
  have hbegin : SequencersLegal s.begin := sequencersLegal_of_sequencers_eq hs rfl
  cases i with
  | stT1ch v =>
    cases h
    exact { hs with
      t1Pend_le := Nat.zero_le _
      t1Pend_run := fun h => absurd h (Nat.lt_irrefl 0)
      t1Fired_stopped := fun h => nomatch h }
  | stT2ch v =>
    cases h
    exact { hs with t2Pend_le := Nat.zero_le _, t2Pend_run := fun h => absurd h (Nat.lt_irrefl 0) }
  | stSr v | rdSr => cases h; exact { hs with srCount_le := Nat.zero_le 8 }
  | stAcr v => exact stAcr_keeps_sequencers hs h
  | stPcr v =>
    cases h
    exact sequencersLegal_of_sequencers_eq hs ((rederiveB_sequencers _ _ _).trans (rederiveA_sequencers _ _ _))
  | rdOrb => cases h; exact sequencersLegal_of_sequencers_eq hs (loadInputLatchB_sequencers (s.begin.returnByte _))
  | rdOra => cases h; exact sequencersLegal_of_sequencers_eq hs (loadInputLatchA_sequencers (s.begin.returnByte _))
  | rdOrax => cases h; exact sequencersLegal_of_sequencers_eq hs (loadInputLatchA_sequencers _)
  | tick => cases h; exact tick_keeps_sequencers hbegin
  | reset =>
    obtain ⟨_, hnext, hlegal⟩ := reset_legal s
    cases hnext.symm.trans h
    exact hlegal.toSequencersLegal
  | init => cases h; exact sequencersLegal_of_halted rfl rfl rfl rfl
  | snapr b =>
    obtain ⟨hvalid, rfl⟩ | rfl := snapr_cases h
    · exact (restored_legal hvalid s).toSequencersLegal
    · exact sequencersLegal_of_sequencers_eq hs rfl
  | edgeCa1Fall | edgeCa1Rise => cases h; exact sequencersLegal_of_sequencers_eq hbegin (edgeCa1_sequencers _ _)
  | edgeCa2Fall | edgeCa2Rise => cases h; exact sequencersLegal_of_sequencers_eq hbegin (edgeCa2_sequencers _ _)
  | edgeCb1Fall | edgeCb1Rise => cases h; exact edgeCb1_keeps_sequencers hbegin _
  | edgeCb2Fall | edgeCb2Rise => cases h; exact sequencersLegal_of_sequencers_eq hbegin (edgeCb2_sequencers _ _)
  | edgePb6Fall | edgePb6Rise => cases h; exact edgePb6_keeps_sequencers hbegin _
  | _ => cases h; exact sequencersLegal_of_sequencers_eq hs rfl

/-- R41 (a) and (b), by the operation; INIT alone leaves the flags and the enables open (R321). -/
theorem exec_keeps_flags {i : Instr} {s t : State} (hs : FlagsLegal s) (h : exec i s = .next t) (hi : i ≠ .init) :
    FlagsLegal t := by
  have hbegin : FlagsLegal s.begin := flagsLegal_of_same hs rfl rfl
  cases i with
  | stOrb v | stOra v | stT1ch v | stT1lh v | stT2ch v | stSr v | rdT1cl | rdT2cl | rdSr =>
    cases h; exact flagsLegal_of_combine (recomputed_eq_combine _ _) hs.ier7
  | stIfr v => cases h; exact flagsLegal_ifrClear hbegin v
  | stIer v =>
    cases h
    exact flagsLegal_irqUpdate ((enablesAfter_getLsbD_seven s.ier v).trans hs.ier7)
  | stAcr v =>
    cases h
    refine acrChange_keeps_flags ?_ _ _
    exact flagsLegal_of_same hs rfl rfl
  | stPcr v =>
    cases h
    refine rederiveB_keeps_flags (rederiveA_keeps_flags ?_ _ _) _ _
    exact flagsLegal_of_same hs rfl rfl
  | rdOrb =>
    cases h
    refine hsAccessB_keeps_flags (flagsLegal_ifrClear (loadInputLatchB_keeps_flags ?_) _)
    exact flagsLegal_of_same hs rfl rfl
  | rdOra =>
    cases h
    refine hsAccessA_keeps_flags (flagsLegal_ifrClear (loadInputLatchA_keeps_flags ?_) _)
    exact flagsLegal_of_same hs rfl rfl
  | rdOrax => cases h; exact loadInputLatchA_keeps_flags (flagsLegal_of_same hs rfl rfl)
  | tick => cases h; exact tick_keeps_flags hbegin _ _
  | reset =>
    obtain ⟨_, hnext, hlegal⟩ := reset_legal s
    cases hnext.symm.trans h
    exact ((legal_iff _).1 hlegal).2
  | init => exact absurd rfl hi
  | snapr b =>
    obtain ⟨hvalid, rfl⟩ | rfl := snapr_cases h
    · exact ((legal_iff _).1 (restored_legal hvalid s)).2
    · exact flagsLegal_of_same hs rfl rfl
  | edgeCa1Fall | edgeCa1Rise => cases h; exact edgeCa1_keeps_flags hbegin _
  | edgeCa2Fall | edgeCa2Rise => cases h; exact edgeCa2_keeps_flags hbegin _
  | edgeCb1Fall | edgeCb1Rise => cases h; exact edgeCb1_keeps_flags hbegin _
  | edgeCb2Fall | edgeCb2Rise => cases h; exact edgeCb2_keeps_flags hbegin _
  | edgePb6Fall | edgePb6Rise => cases h; exact edgePb6_keeps_flags hbegin _
  | _ => cases h; exact flagsLegal_of_same hs rfl rfl

/-- Settles O51. -/
theorem stepsKeepTheSequencersLegal : Obligations.StepsKeepTheSequencersLegal := by
  intro s t hs h
  obtain ⟨i, rest, -, hexec⟩ := step_next h
  have hpresent : SequencersLegal (s.present rest) := sequencersLegal_of_sequencers_eq hs rfl
  exact exec_keeps_sequencers hpresent hexec

/-- Settles O50: the step invariant is the conjunction of the one on the sequencers and the one on the flags. -/
theorem stepsKeepTheStateLegal : Obligations.StepsKeepTheStateLegal := by
  intro s t hs h hinit
  obtain ⟨hseq, hflags⟩ := (legal_iff s).1 hs
  obtain ⟨i, rest, hdecode, hexec⟩ := step_next h
  have hi : i ≠ .init := fun hi => hinit rest (hi ▸ hdecode)
  have hpresent : FlagsLegal (s.present rest) := flagsLegal_of_same hflags rfl rfl
  exact (legal_iff t).2 ⟨stepsKeepTheSequencersLegal s t hseq h, exec_keeps_flags hpresent hexec hi⟩

/-- Settles O53. -/
theorem resetAndRestoreEstablishLegality : Obligations.ResetAndRestoreEstablishLegality := by
  refine ⟨reset_legal, fun s t b h hok => ?_⟩
  obtain ⟨hvalid, rfl⟩ | rfl := snapr_cases h
  · exact restored_legal hvalid s
  · cases hok

/-- Settles O52. -/
theorem resetStateIsLegal : Obligations.ResetStateIsLegal :=
  (legal_iff State.reset).2 ⟨sequencersLegal_of_halted rfl rfl rfl rfl, rfl, rfl⟩

/-! ### What the block drives -/

/-- Settles O24: the latch and the direction of a port store are its data byte and the register it leaves alone, and
R33 makes `ifr[7]` the request. -/
theorem drivenPinsAndLevelOutputs : Obligations.DrivenPinsAndLevelOutputs := by
  refine ⟨fun v s t k h => ?_, fun v s t k h => ?_, fun s hs => ?_, fun s => ⟨rfl, rfl, rfl⟩⟩
  · cases h; rfl
  · cases h; rfl
  · exact ((legal_iff s).1 hs).2.combined

end Sys2Proof.Machine
end

section
/-! The latch, direction and control registers: what each operation leaves in them, as a function of the operation and
of the registers before it (10_state.md R21, R22, R27, R29, R34, R35, R37). -/

namespace Sys2Proof.Machine

open Sys2Proof.Safety

/-- The registers that nothing but the STORE to their address, RESET, INIT and SNAPR writes. -/
structure Registers where
  orb : Byte
  ora : Byte
  ddrb : Byte
  ddra : Byte
  t1ll : Byte
  t1lh : Byte
  t2ll : Byte
  acr : Byte
  pcr : Byte
  ier : Byte

def State.registers (s : State) : Registers :=
  ⟨s.orb, s.ora, s.ddrb, s.ddra, s.t1ll, s.t1lh, s.t2ll, s.acr, s.pcr, s.ier⟩

/-- The registers after an operation other than RESET, INIT and SNAPR (44_bus_store.md R240 to R255). -/
def registersAfter (i : Instr) (r : Registers) : Registers :=
  match i with
  | .stOrb v => { r with orb := v }
  | .stOra v => { r with ora := v }
  | .stOrax v => { r with ora := v }
  | .stDdrb v => { r with ddrb := v }
  | .stDdra v => { r with ddra := v }
  | .stT1cl v => { r with t1ll := v }
  | .stT1ll v => { r with t1ll := v }
  | .stT1ch v => { r with t1lh := v }
  | .stT1lh v => { r with t1lh := v }
  | .stT2cl v => { r with t2ll := v }
  | .stAcr v => { r with acr := v }
  | .stPcr v => { r with pcr := v }
  | .stIer v => { r with ier := enablesAfter r.ier v }
  | _ => r

/-! ### The procedures write no register -/

theorem loadInputLatchA_registers (s : State) : s.loadInputLatchA.registers = s.registers := by
  rw [loadInputLatchA_eq]; rfl

theorem loadInputLatchB_registers (s : State) : s.loadInputLatchB.registers = s.registers := by
  rw [loadInputLatchB_eq]; rfl

theorem rederiveA_registers (old new : Byte) (s : State) : (s.rederiveA old new).registers = s.registers := by
  unfold State.rederiveA
  split <;> rfl

theorem rederiveB_registers (old new : Byte) (s : State) : (s.rederiveB old new).registers = s.registers := by
  unfold State.rederiveB
  split <;> rfl

theorem acrShiftChange_registers (old new : Byte) (s : State) :
    (s.acrShiftChange old new).registers = s.registers := by
  unfold State.acrShiftChange
  split <;> rfl

theorem acrTimer2Change_registers (old new : Byte) (s : State) :
    (s.acrTimer2Change old new).registers = s.registers := by
  unfold State.acrTimer2Change
  split <;> rfl

theorem edgeCa1_registers (level : Bool) (s : State) : (s.edgeCa1 level).registers = s.registers := by
  unfold State.edgeCa1
  split <;> rfl

theorem edgeCa2_registers (level : Bool) (s : State) : (s.edgeCa2 level).registers = s.registers := by
  unfold State.edgeCa2
  split <;> rfl

theorem edgeCb2_registers (level : Bool) (s : State) : (s.edgeCb2 level).registers = s.registers := by
  unfold State.edgeCb2
  split <;> rfl

theorem srTimer2Edge_registers (s : State) : s.srTimer2Edge.registers = s.registers := by
  rw [srTimer2Edge_eq]
  split <;> rfl

theorem srExtEdge_registers (s : State) (level : Bool) : (s.srExtEdge level).registers = s.registers := by
  rw [srExtEdge_eq]
  split <;> rfl

theorem tickSr_registers (s : State) : s.tickSr.registers = s.registers := by
  rw [tickSr_eq]
  split
  · split <;> rfl
  · rfl

theorem edgeCb1_registers (level : Bool) (s : State) : (s.edgeCb1 level).registers = s.registers := by
  unfold State.edgeCb1
  split <;> exact srExtEdge_registers _ level

theorem t1Action_registers (s : State) : s.t1Action.registers = s.registers := by
  rw [t1Action_eq]; rfl

theorem t2Action_registers (s : State) : s.t2Action.registers = s.registers := by
  rw [t2Action_eq]
  exact srTimer2Edge_registers _

theorem tickT1_registers (l1 : Nat) (s : State) : (s.tickT1 l1).registers = s.registers := by
  rw [tickT1_eq]
  split
  · exact t1Action_registers _
  · rfl

theorem tickT2_registers (l2 : Nat) (s : State) : (s.tickT2 l2).registers = s.registers := by
  rw [tickT2_eq]
  split
  · exact t2Action_registers _
  · rfl

theorem tick_registers (l1 l2 : Nat) (s : State) : (s.tick l1 l2).registers = s.registers :=
  calc (s.tick l1 l2).registers
    _ = ((s.tickT1 l1).tickT2 l2).registers := tickSr_registers _
    _ = (s.tickT1 l1).registers := tickT2_registers l2 _
    _ = s.registers := tickT1_registers l1 s

theorem edgePb6_registers (level : Bool) (s : State) : (s.edgePb6 level).registers = s.registers := by
  unfold State.edgePb6
  split
  · split
    · exact t2Action_registers _
    · rfl
  · rfl

/-! ### Every operation -/

/-- The three operations that the laws on registers and lines except, by their command bytes. -/
theorem not_control_of_commandIn {i : Instr} (h : commandIn i [0xC1#8, 0xC2#8, 0xC4#8] = false) :
    i ≠ .reset ∧ i ≠ .init ∧ ∀ b, i ≠ .snapr b := by
  refine ⟨?_, ?_, ?_⟩
  · rintro rfl; cases h
  · rintro rfl; cases h
  · rintro b rfl; cases h

theorem exec_registers {i : Instr} {s t : State} (h : exec i s = .next t)
    (hi : commandIn i [0xC1#8, 0xC2#8, 0xC4#8] = false) : t.registers = registersAfter i s.registers := by
  obtain ⟨hreset, hinit, hsnapr⟩ := not_control_of_commandIn hi
  cases i with
  | reset => exact absurd rfl hreset
  | init => exact absurd rfl hinit
  | snapr b => exact absurd rfl (hsnapr b)
  | stAcr v => cases h; exact (acrTimer2Change_registers _ _ _).trans (acrShiftChange_registers _ _ _)
  | stPcr v => cases h; exact (rederiveB_registers _ _ _).trans (rederiveA_registers _ _ _)
  | rdOrb => cases h; exact loadInputLatchB_registers (s.begin.returnByte s.portBValue)
  | rdOra => cases h; exact loadInputLatchA_registers (s.begin.returnByte s.portAValue)
  | rdOrax => cases h; exact loadInputLatchA_registers _
  | tick => cases h; exact tick_registers _ _ _
  | edgeCa1Fall | edgeCa1Rise => cases h; exact edgeCa1_registers _ _
  | edgeCa2Fall | edgeCa2Rise => cases h; exact edgeCa2_registers _ _
  | edgeCb1Fall | edgeCb1Rise => cases h; exact edgeCb1_registers _ _
  | edgeCb2Fall | edgeCb2Rise => cases h; exact edgeCb2_registers _ _
  | edgePb6Fall | edgePb6Rise => cases h; exact edgePb6_registers _ _
  | _ => cases h; rfl

/-! ### One address for each register -/

section
variable {i : Instr} (r : Registers)

theorem registersAfter_orb (h : commandIn i [0x00#8] = false) : (registersAfter i r).orb = r.orb := by
  cases i with
  | stOrb v => cases h
  | _ => rfl

theorem registersAfter_ora (h : commandIn i [0x01#8, 0x0F#8] = false) : (registersAfter i r).ora = r.ora := by
  cases i with
  | stOra v | stOrax v => cases h
  | _ => rfl

theorem registersAfter_ddrb (h : commandIn i [0x02#8] = false) : (registersAfter i r).ddrb = r.ddrb := by
  cases i with
  | stDdrb v => cases h
  | _ => rfl

theorem registersAfter_ddra (h : commandIn i [0x03#8] = false) : (registersAfter i r).ddra = r.ddra := by
  cases i with
  | stDdra v => cases h
  | _ => rfl

theorem registersAfter_t1ll (h : commandIn i [0x04#8, 0x06#8] = false) : (registersAfter i r).t1ll = r.t1ll := by
  cases i with
  | stT1cl v | stT1ll v => cases h
  | _ => rfl

theorem registersAfter_t1lh (h : commandIn i [0x05#8, 0x07#8] = false) : (registersAfter i r).t1lh = r.t1lh := by
  cases i with
  | stT1ch v | stT1lh v => cases h
  | _ => rfl

theorem registersAfter_t2ll (h : commandIn i [0x08#8] = false) : (registersAfter i r).t2ll = r.t2ll := by
  cases i with
  | stT2cl v => cases h
  | _ => rfl

theorem registersAfter_acr (h : commandIn i [0x0B#8] = false) : (registersAfter i r).acr = r.acr := by
  cases i with
  | stAcr v => cases h
  | _ => rfl

theorem registersAfter_pcr (h : commandIn i [0x0C#8] = false) : (registersAfter i r).pcr = r.pcr := by
  cases i with
  | stPcr v => cases h
  | _ => rfl

theorem registersAfter_ier (h : commandIn i [0x0E#8] = false) : (registersAfter i r).ier = r.ier := by
  cases i with
  | stIer v => cases h
  | _ => rfl

end

/-- Settles O56. -/
theorem registersAreWrittenOnlyAtTheirAddress : Obligations.RegistersAreWrittenOnlyAtTheirAddress := by
  intro i s t h hi
  have after := exec_registers h hi
  exact ⟨
    fun hc => (congrArg Registers.orb after).trans (registersAfter_orb _ hc),
    fun hc => (congrArg Registers.ora after).trans (registersAfter_ora _ hc),
    fun hc => (congrArg Registers.ddrb after).trans (registersAfter_ddrb _ hc),
    fun hc => (congrArg Registers.ddra after).trans (registersAfter_ddra _ hc),
    fun hc => (congrArg Registers.t1ll after).trans (registersAfter_t1ll _ hc),
    fun hc => (congrArg Registers.t1lh after).trans (registersAfter_t1lh _ hc),
    fun hc => (congrArg Registers.t2ll after).trans (registersAfter_t2ll _ hc),
    fun hc => (congrArg Registers.acr after).trans (registersAfter_acr _ hc),
    fun hc => (congrArg Registers.pcr after).trans (registersAfter_pcr _ hc),
    fun hc => (congrArg Registers.ier after).trans (registersAfter_ier _ hc)⟩

end Sys2Proof.Machine
end

section
/-! The pins beside the operation: everything commutes with a change of the pins but what samples them (10_state.md R23,
R60). -/

namespace Sys2Proof.Machine

open Sys2Proof.Safety

/-- The state with its pins changed, and nothing else. -/
def State.mapPins (a b : Byte → Byte) (s : State) : State := { s with paIn := a s.paIn, pbIn := b s.pbIn }

section
variable (a b : Byte → Byte) (s : State)

/-! ### Procedures that do not sample the pins -/

theorem begin_mapPins : (s.mapPins a b).begin = s.begin.mapPins a b := rfl

theorem returnByte_mapPins (v : Byte) : (s.mapPins a b).returnByte v = (s.returnByte v).mapPins a b := rfl

theorem rederiveA_mapPins (old new : Byte) :
    (s.mapPins a b).rederiveA old new = (s.rederiveA old new).mapPins a b := by
  unfold State.rederiveA
  rw [apply_ite (State.mapPins a b)]; rfl

theorem rederiveB_mapPins (old new : Byte) :
    (s.mapPins a b).rederiveB old new = (s.rederiveB old new).mapPins a b := by
  unfold State.rederiveB
  rw [apply_ite (State.mapPins a b)]; rfl

theorem acrShiftChange_mapPins (old new : Byte) :
    (s.mapPins a b).acrShiftChange old new = (s.acrShiftChange old new).mapPins a b := by
  unfold State.acrShiftChange
  rw [apply_ite (State.mapPins a b)]; rfl

theorem acrTimer2Change_mapPins (old new : Byte) :
    (s.mapPins a b).acrTimer2Change old new = (s.acrTimer2Change old new).mapPins a b := by
  unfold State.acrTimer2Change
  rw [apply_ite (State.mapPins a b)]; rfl

theorem edgeCa2_mapPins (level : Bool) : (s.mapPins a b).edgeCa2 level = (s.edgeCa2 level).mapPins a b := by
  unfold State.edgeCa2
  rw [apply_ite (State.mapPins a b)]; rfl

theorem edgeCb2_mapPins (level : Bool) : (s.mapPins a b).edgeCb2 level = (s.edgeCb2 level).mapPins a b := by
  unfold State.edgeCb2
  rw [apply_ite (State.mapPins a b)]; rfl

theorem srTimer2Edge_mapPins : (s.mapPins a b).srTimer2Edge = s.srTimer2Edge.mapPins a b := by
  rw [srTimer2Edge_eq, srTimer2Edge_eq, apply_ite (State.mapPins a b)]; rfl

theorem srExtEdge_mapPins (level : Bool) : (s.mapPins a b).srExtEdge level = (s.srExtEdge level).mapPins a b := by
  rw [srExtEdge_eq, srExtEdge_eq, apply_ite (State.mapPins a b)]; rfl

theorem tickSr_mapPins : (s.mapPins a b).tickSr = s.tickSr.mapPins a b := by
  rw [tickSr_eq, tickSr_eq, apply_ite (State.mapPins a b), apply_ite (State.mapPins a b)]; rfl

theorem t1Action_mapPins : (s.mapPins a b).t1Action = s.t1Action.mapPins a b := by
  rw [t1Action_eq, t1Action_eq]; rfl

theorem t2Action_mapPins : (s.mapPins a b).t2Action = s.t2Action.mapPins a b := by
  rw [t2Action_eq, t2Action_eq, ← srTimer2Edge_mapPins]; rfl

theorem tickT1_mapPins (l1 : Nat) : (s.mapPins a b).tickT1 l1 = (s.tickT1 l1).mapPins a b := by
  rw [tickT1_eq, tickT1_eq, apply_ite (State.mapPins a b), ← t1Action_mapPins]; rfl

theorem tickT2_mapPins (l2 : Nat) : (s.mapPins a b).tickT2 l2 = (s.tickT2 l2).mapPins a b := by
  rw [tickT2_eq, tickT2_eq, apply_ite (State.mapPins a b), ← t2Action_mapPins]; rfl

theorem tick_mapPins (l1 l2 : Nat) : (s.mapPins a b).tick l1 l2 = (s.tick l1 l2).mapPins a b := by
  unfold State.tick
  rw [tickT1_mapPins, tickT2_mapPins, tickSr_mapPins]

theorem edgePb6_mapPins (level : Bool) : (s.mapPins a b).edgePb6 level = (s.edgePb6 level).mapPins a b := by
  unfold State.edgePb6
  rw [apply_ite (State.mapPins a b), apply_ite (State.mapPins a b), ← t2Action_mapPins]; rfl

theorem snapshotRead_mapPins (l1 l2 : Nat) (payload : List Byte) :
    (s.mapPins a b).snapshotRead l1 l2 payload = (s.snapshotRead l1 l2 payload).mapPins a b := by
  unfold State.snapshotRead
  rw [apply_ite (State.mapPins a b)]; rfl

end

/-! ### Sampling -/

section
variable {a b : Byte → Byte} {s : State}

/-- R23, R24: a port read sees the pins with latching off only. -/
theorem inputA_mapPins (h : a s.paIn = s.paIn ∨ s.acr.getLsbD 0 = true) : (s.mapPins a b).inputA = s.inputA := by
  unfold State.inputA paLatch State.mapPins
  rcases h with h | h <;> simp [h]

theorem inputB_mapPins (h : b s.pbIn = s.pbIn ∨ s.acr.getLsbD 1 = true) : (s.mapPins a b).inputB = s.inputB := by
  unfold State.inputB pbLatch State.mapPins
  rcases h with h | h <;> simp [h]

theorem portAValue_mapPins (h : a s.paIn = s.paIn ∨ s.acr.getLsbD 0 = true) :
    (s.mapPins a b).portAValue = s.portAValue :=
  congrArg (portValue s.ora s.ddra) (inputA_mapPins h)

theorem portBValue_mapPins (h : b s.pbIn = s.pbIn ∨ s.acr.getLsbD 1 = true) :
    (s.mapPins a b).portBValue = s.portBValue :=
  congrArg (portValue s.orb s.ddrb) (inputB_mapPins h)

theorem loadInputLatchA_mapPins (h : a s.paIn = s.paIn ∨ s.acr.getLsbD 0 = true) :
    (s.mapPins a b).loadInputLatchA = s.loadInputLatchA.mapPins a b := by
  rw [loadInputLatchA_eq, loadInputLatchA_eq]
  unfold State.mapPins
  rcases h with h | h <;> simp [h]

theorem loadInputLatchB_mapPins (h : b s.pbIn = s.pbIn ∨ s.acr.getLsbD 1 = true) :
    (s.mapPins a b).loadInputLatchB = s.loadInputLatchB.mapPins a b := by
  rw [loadInputLatchB_eq, loadInputLatchB_eq]
  unfold State.mapPins
  rcases h with h | h <;> simp [h]

/-- R192: an edge on CA1 loads the pins of port A where latching is on. -/
theorem edgeCa1_mapPins (level : Bool) (h : a s.paIn = s.paIn) :
    (s.mapPins a b).edgeCa1 level = (s.edgeCa1 level).mapPins a b := by
  rw [edgeCa1_eq, edgeCa1_eq, apply_ite (State.mapPins a b)]
  unfold State.mapPins
  simp only [h]

theorem edgeCb1_mapPins (level : Bool) (h : b s.pbIn = s.pbIn) :
    (s.mapPins a b).edgeCb1 level = (s.edgeCb1 level).mapPins a b := by
  rw [edgeCb1_eq, edgeCb1_eq, apply_ite (State.mapPins a b), ← srExtEdge_mapPins, ← srExtEdge_mapPins]
  unfold State.mapPins
  simp only [h]

end

/-! ### Every operation -/

/-- The operation does not see the change of port A's pins: there is none, or it does not sample them (R60), or port A's
latching is on and it is no edge on CA1 (R23). -/
def PinsAUnseen (a : Byte → Byte) (i : Instr) (s : State) : Prop :=
  a s.paIn = s.paIn ∨ samplesPortA i = false ∨ (s.acr.getLsbD 0 = true ∧ i ≠ .edgeCa1Fall ∧ i ≠ .edgeCa1Rise)

/-- The same for port B and CB1. -/
def PinsBUnseen (b : Byte → Byte) (i : Instr) (s : State) : Prop :=
  b s.pbIn = s.pbIn ∨ samplesPortB i = false ∨ (s.acr.getLsbD 1 = true ∧ i ≠ .edgeCb1Fall ∧ i ≠ .edgeCb1Rise)

theorem PinsAUnseen.of_samples {a : Byte → Byte} {i : Instr} {s : State} (h : PinsAUnseen a i s)
    (hi : samplesPortA i = true) : a s.paIn = s.paIn ∨ s.acr.getLsbD 0 = true := by
  obtain h | h | ⟨h, -⟩ := h
  · exact .inl h
  · exact absurd (hi.symm.trans h) (by decide)
  · exact .inr h

theorem PinsBUnseen.of_samples {b : Byte → Byte} {i : Instr} {s : State} (h : PinsBUnseen b i s)
    (hi : samplesPortB i = true) : b s.pbIn = s.pbIn ∨ s.acr.getLsbD 1 = true := by
  obtain h | h | ⟨h, -⟩ := h
  · exact .inl h
  · exact absurd (hi.symm.trans h) (by decide)
  · exact .inr h

theorem PinsAUnseen.of_edgeCa1 {a : Byte → Byte} {i : Instr} {s : State} (h : PinsAUnseen a i s)
    (hi : i = .edgeCa1Fall ∨ i = .edgeCa1Rise) : a s.paIn = s.paIn := by
  obtain h | h | ⟨-, hfall, hrise⟩ := h
  · exact h
  · rcases hi with rfl | rfl <;> cases h
  · exact absurd hi (not_or.2 ⟨hfall, hrise⟩)

theorem PinsBUnseen.of_edgeCb1 {b : Byte → Byte} {i : Instr} {s : State} (h : PinsBUnseen b i s)
    (hi : i = .edgeCb1Fall ∨ i = .edgeCb1Rise) : b s.pbIn = s.pbIn := by
  obtain h | h | ⟨-, hfall, hrise⟩ := h
  · exact h
  · rcases hi with rfl | rfl <;> cases h
  · exact absurd hi (not_or.2 ⟨hfall, hrise⟩)

/-- R60, R23: an operation that does not see a change of the pins performs the same in both states. -/
theorem exec_mapPins {a b : Byte → Byte} {i : Instr} {s : State} (hA : PinsAUnseen a i s) (hB : PinsBUnseen b i s) :
    exec i (s.mapPins a b) = mapNext (State.mapPins a b) (exec i s) := by
  cases i with
  | stAcr v =>
    change Host.Outcome.next (State.acrTimer2Change s.acr v (State.acrShiftChange s.acr v
      (State.mapPins a b (State.emit { s.begin with acr := v } (.acr v))))) = _
    rw [acrShiftChange_mapPins, acrTimer2Change_mapPins]
    rfl
  | stPcr v =>
    change Host.Outcome.next (State.rederiveB s.pcr v (State.rederiveA s.pcr v
      (State.mapPins a b (State.emit { s.begin with pcr := v } (.pcr v))))) = _
    rw [rederiveA_mapPins, rederiveB_mapPins]
    rfl
  | rdOrb =>
    have unseen := hB.of_samples rfl
    have latched := loadInputLatchB_mapPins (a := a) (b := b) (s := s.begin.returnByte s.portBValue) unseen
    simp only [exec, execRdOrb, mapNext, portBValue_mapPins unseen, begin_mapPins, returnByte_mapPins, latched]
    rfl
  | rdOra =>
    have unseen := hA.of_samples rfl
    have latched := loadInputLatchA_mapPins (a := a) (b := b) (s := s.begin.returnByte s.portAValue) unseen
    simp only [exec, execRdOra, mapNext, portAValue_mapPins unseen, begin_mapPins, returnByte_mapPins, latched]
    rfl
  | rdOrax =>
    have unseen := hA.of_samples rfl
    have latched := loadInputLatchA_mapPins (a := a) (b := b) (s := s.begin.returnByte s.portAValue) unseen
    simp only [exec, execRdOrax, mapNext, portAValue_mapPins unseen, begin_mapPins, returnByte_mapPins, latched]
  | pkOrb =>
    simp only [exec, execPkOrb, mapNext, portBValue_mapPins (hB.of_samples rfl), begin_mapPins, returnByte_mapPins]
  | pkOra =>
    simp only [exec, execPkOra, mapNext, portAValue_mapPins (hA.of_samples rfl), begin_mapPins, returnByte_mapPins]
  | pkOrax =>
    simp only [exec, execPkOrax, mapNext, portAValue_mapPins (hA.of_samples rfl), begin_mapPins, returnByte_mapPins]
  | tick => simp only [exec, execTick, mapNext, begin_mapPins, tick_mapPins]
  | snapr payload => simp only [exec, execSnapr, mapNext, snapshotRead_mapPins]
  | edgeCa1Fall =>
    have unchanged : a s.begin.paIn = s.begin.paIn := hA.of_edgeCa1 (.inl rfl)
    simp only [exec, execEdgeCa1Fall, mapNext, begin_mapPins, edgeCa1_mapPins _ unchanged]
  | edgeCa1Rise =>
    have unchanged : a s.begin.paIn = s.begin.paIn := hA.of_edgeCa1 (.inr rfl)
    simp only [exec, execEdgeCa1Rise, mapNext, begin_mapPins, edgeCa1_mapPins _ unchanged]
  | edgeCa2Fall => simp only [exec, execEdgeCa2Fall, mapNext, begin_mapPins, edgeCa2_mapPins]
  | edgeCa2Rise => simp only [exec, execEdgeCa2Rise, mapNext, begin_mapPins, edgeCa2_mapPins]
  | edgeCb1Fall =>
    have unchanged : b s.begin.pbIn = s.begin.pbIn := hB.of_edgeCb1 (.inl rfl)
    simp only [exec, execEdgeCb1Fall, mapNext, begin_mapPins, edgeCb1_mapPins _ unchanged]
  | edgeCb1Rise =>
    have unchanged : b s.begin.pbIn = s.begin.pbIn := hB.of_edgeCb1 (.inr rfl)
    simp only [exec, execEdgeCb1Rise, mapNext, begin_mapPins, edgeCb1_mapPins _ unchanged]
  | edgeCb2Fall => simp only [exec, execEdgeCb2Fall, mapNext, begin_mapPins, edgeCb2_mapPins]
  | edgeCb2Rise => simp only [exec, execEdgeCb2Rise, mapNext, begin_mapPins, edgeCb2_mapPins]
  | edgePb6Fall => simp only [exec, execEdgePb6Fall, mapNext, begin_mapPins, edgePb6_mapPins]
  | edgePb6Rise => simp only [exec, execEdgePb6Rise, mapNext, begin_mapPins, edgePb6_mapPins]
  | _ => rfl

/-- Settles O57: each clause changes the pins of one port by a constant and leaves the other's. -/
theorem pinsMatterOnlyWhereTheyAreSampled : Obligations.PinsMatterOnlyWhereTheyAreSampled := by
  intro i s p
  refine ⟨fun h => ?_, fun h => ?_, fun hl hf hr => ?_, fun hl hf hr => ?_⟩
  · exact exec_mapPins (a := fun _ => p) (b := id) (.inr (.inl h)) (.inl rfl)
  · exact exec_mapPins (a := id) (b := fun _ => p) (.inl rfl) (.inr (.inl h))
  · exact exec_mapPins (a := fun _ => p) (b := id) (.inr (.inr ⟨hl, hf, hr⟩)) (.inl rfl)
  · exact exec_mapPins (a := id) (b := fun _ => p) (.inl rfl) (.inr (.inr ⟨hl, hf, hr⟩))

end Sys2Proof.Machine
end

section
/-! The level outputs and the events that report them (10_state.md R63, 41_interrupt_flags.md R174 (c)): a procedure
tracks an output when the events it adds end with the output's level, or report none and leave it alone. Tracking
composes, so an operation tracks what each of its procedures tracks. -/

namespace Sys2Proof.Machine

open Sys2Proof.Safety

/-- The four level outputs of R63. -/
inductive Output where
  | irq | t1 | ca2 | cb2

/-- The levels of the four outputs. -/
structure Levels where
  irq : Bool
  t1 : Bool
  ca2 : Bool
  cb2 : Bool

def State.levels (s : State) : Levels := ⟨s.irqOut, s.t1OutLevel, s.ca2Out, s.cb2Out⟩

/-- The level of one output. -/
def Output.level (o : Output) (s : State) : Bool :=
  match o with
  | .irq => s.levels.irq
  | .t1 => s.levels.t1
  | .ca2 => s.levels.ca2
  | .cb2 => s.levels.cb2

/-- The levels reported for one output, in order. -/
def Output.reports (o : Output) (es : List Event) : List Bool :=
  match o with
  | .irq => irqLevels es
  | .t1 => t1OutLevels es
  | .ca2 => ca2Levels es
  | .cb2 => cb2Levels es

theorem reports_append (o : Output) (es fs : List Event) : o.reports (es ++ fs) = o.reports es ++ o.reports fs := by
  cases o <;> exact List.filterMap_append

theorem reports_nil (o : Output) : o.reports [] = [] := by
  cases o <;> rfl

/-- Later reports replace earlier ones, and where there are none the earlier ones stand. -/
theorem lastReport_append {ls ms : List Bool} {x y z : Bool} (h : LastReport ls x y) (h' : LastReport ms y z) :
    LastReport (ls ++ ms) x z := by
  obtain hlast | ⟨rfl, rfl⟩ := h'
  · exact .inl (by simp [List.getLast?_append, hlast])
  · simpa using h

/-- From `s` to `t` events are only added, and R63 holds of the output and the added events. -/
def Tracks (o : Output) (s t : State) : Prop :=
  ∃ es, t.events = s.events ++ es ∧ LastReport (o.reports es) (o.level s) (o.level t)

theorem Tracks.trans {o : Output} {s t u : State} (h : Tracks o s t) (h' : Tracks o t u) : Tracks o s u := by
  obtain ⟨es, hes, hst⟩ := h
  obtain ⟨fs, hfs, htu⟩ := h'
  refine ⟨es ++ fs, by rw [hfs, hes, List.append_assoc], ?_⟩
  rw [reports_append]
  exact lastReport_append hst htu

/-- An operation begins with no event, so what it tracks from there is R63 for the whole operation. -/
theorem Tracks.lastReport {o : Output} {s t : State} (h : Tracks o s.begin t) :
    LastReport (o.reports t.events) (o.level s) (o.level t) := by
  obtain ⟨es, hes, hlast⟩ := h
  have hall : t.events = es := hes
  have hbegin : o.level s.begin = o.level s := by cases o <;> rfl
  rwa [hall, ← hbegin]

section
variable {o : Output} {s t : State}

theorem level_eq_of_levels_eq (h : t.levels = s.levels) : o.level t = o.level s := by
  cases o <;> simp [Output.level, h]

/-- Events that report nothing about the output, which does not move. -/
theorem tracks_of_quiet {es : List Event} (hes : t.events = s.events ++ es) (hquiet : o.reports es = [])
    (hlevel : o.level t = o.level s) : Tracks o s t :=
  ⟨es, hes, .inr ⟨hquiet, hlevel⟩⟩

theorem tracks_of_same (hes : t.events = s.events) (hlevels : t.levels = s.levels) : Tracks o s t :=
  tracks_of_quiet (es := []) (by simp [hes]) (reports_nil o) (level_eq_of_levels_eq hlevels)

theorem tracks_refl : Tracks o s s := tracks_of_same rfl rfl

/-- A store event reports no level. -/
theorem tracks_of_event {e : Event} (hes : t.events = s.events ++ [e]) (hquiet : o.reports [e] = [])
    (hlevels : t.levels = s.levels) : Tracks o s t :=
  tracks_of_quiet hes hquiet (level_eq_of_levels_eq hlevels)

/-- R174 (c): the combinator reports the interrupt output, and moves no other. -/
theorem tracks_of_irq {f ier : Byte} (hifr : t.ifr = combine f ier)
    (hes : t.events = s.events ++ [.irq (request f ier)]) (hother : o ≠ .irq → o.level t = o.level s) :
    Tracks o s t := by
  cases o with
  | irq =>
    have hlevel : t.irqOut = request f ier := by
      unfold State.irqOut
      rw [hifr, combine_getLsbD_seven]
    exact ⟨_, hes, .inl (congrArg some hlevel.symm)⟩
  | t1 | ca2 | cb2 => exact tracks_of_quiet hes rfl (hother nofun)

/-- The same where no other level is written. -/
theorem tracks_of_irq_alone {f ier : Byte} (hifr : t.ifr = combine f ier)
    (hes : t.events = s.events ++ [.irq (request f ier)]) (hlevels : t.levels = { s.levels with irq := t.irqOut }) :
    Tracks o s t := by
  refine tracks_of_irq hifr hes fun ho => ?_
  cases o with
  | irq => exact absurd rfl ho
  | t1 | ca2 | cb2 => simp [Output.level, hlevels]

/-! ### The shared procedures -/

theorem tracks_irqUpdate : Tracks o s s.irqUpdate := by
  rw [irqUpdate_eq]
  exact tracks_of_irq_alone rfl rfl rfl

theorem tracks_ifrSet (k : Source) : Tracks o s (s.ifrSet k) := by
  rw [ifrSet_eq]
  exact tracks_of_irq_alone rfl rfl rfl

theorem tracks_ifrClear (m : Byte) : Tracks o s (s.ifrClear m) := by
  rw [ifrClear_eq]
  exact tracks_of_irq_alone rfl rfl rfl

theorem tracks_loadInputLatchA : Tracks o s s.loadInputLatchA := by
  rw [loadInputLatchA_eq]
  exact tracks_of_same rfl rfl

theorem tracks_loadInputLatchB : Tracks o s s.loadInputLatchB := by
  rw [loadInputLatchB_eq]
  exact tracks_of_same rfl rfl

/-- A new level of CA2 with the event that reports it. -/
theorem tracks_emit_ca2 (level : Bool) : Tracks o s (State.emit { s with ca2 := level } (.ca2 level)) := by
  cases o with
  | ca2 => exact ⟨_, rfl, .inl rfl⟩
  | irq | t1 | cb2 => exact tracks_of_quiet rfl rfl rfl

theorem tracks_emit_cb2 (level : Bool) : Tracks o s (State.emit { s with cb2 := level } (.cb2 level)) := by
  cases o with
  | cb2 => exact ⟨_, rfl, .inl rfl⟩
  | irq | t1 | ca2 => exact tracks_of_quiet rfl rfl rfl

theorem tracks_rederiveA (old new : Byte) : Tracks o s (s.rederiveA old new) := by
  unfold State.rederiveA
  split
  · exact tracks_refl
  · exact tracks_emit_ca2 _

theorem tracks_rederiveB (old new : Byte) : Tracks o s (s.rederiveB old new) := by
  unfold State.rederiveB
  split
  · exact tracks_refl
  · exact tracks_emit_cb2 _

/-- R198, R199: the last of the levels a port access drives is the level the line is left at. -/
theorem lastReport_drives (mode : Nat) (level : Bool) :
    LastReport (drives mode level) level (levelAfter mode level) := by
  unfold drives levelAfter
  split_ifs
  · exact .inl rfl
  · exact .inl rfl
  · exact .inr ⟨rfl, rfl⟩

theorem ca2Levels_map_ca2 (ls : List Bool) : ca2Levels (ls.map .ca2) = ls := by
  simp [ca2Levels, List.filterMap_map]

theorem cb2Levels_map_cb2 (ls : List Bool) : cb2Levels (ls.map .cb2) = ls := by
  simp [cb2Levels, List.filterMap_map]

theorem reports_map_ca2 (ls : List Bool) (ho : o ≠ .ca2) : o.reports (ls.map .ca2) = [] := by
  cases o with
  | ca2 => exact absurd rfl ho
  | irq | t1 | cb2 =>
    simp [Output.reports, irqLevels, irqReport, t1OutLevels, cb2Levels, List.filterMap_map, Function.comp_def]

theorem reports_map_cb2 (ls : List Bool) (ho : o ≠ .cb2) : o.reports (ls.map .cb2) = [] := by
  cases o with
  | cb2 => exact absurd rfl ho
  | irq | t1 | ca2 =>
    simp [Output.reports, irqLevels, irqReport, t1OutLevels, ca2Levels, List.filterMap_map, Function.comp_def]

theorem tracks_hsAccessA : Tracks o s s.hsAccessA := by
  rw [hsAccessA_eq]
  cases o with
  | ca2 =>
    refine ⟨_, rfl, ?_⟩
    change LastReport (ca2Levels _) _ _
    rw [ca2Levels_map_ca2]
    exact lastReport_drives _ _
  | irq | t1 | cb2 => exact tracks_of_quiet rfl (reports_map_ca2 _ nofun) rfl

theorem tracks_hsAccessB : Tracks o s s.hsAccessB := by
  rw [hsAccessB_eq]
  cases o with
  | cb2 =>
    refine ⟨_, rfl, ?_⟩
    change LastReport (cb2Levels _) _ _
    rw [cb2Levels_map_cb2]
    exact lastReport_drives _ _
  | irq | t1 | ca2 => exact tracks_of_quiet rfl (reports_map_cb2 _ nofun) rfl

theorem tracks_srRestart : Tracks o s s.srRestart := tracks_of_same rfl rfl

theorem tracks_acrChange (old new : Byte) : Tracks o s ((s.acrShiftChange old new).acrTimer2Change old new) := by
  unfold State.acrTimer2Change State.acrShiftChange
  split <;> split <;> exact tracks_of_same rfl rfl

/-! ### The shifter and the timers -/

theorem tracks_shiftBit : Tracks o s s.shiftBit := by
  unfold State.shiftBit
  split
  · refine Tracks.trans ?_ (tracks_emit_cb2 (s := { s with sr := shiftLeftIn s.sr (s.sr.getLsbD 7) }) _)
    exact tracks_of_same rfl rfl
  · exact tracks_of_same rfl rfl

theorem tracks_countShift : Tracks o s s.countShift := by
  unfold State.countShift
  split
  · refine Tracks.trans ?_ (tracks_ifrSet .sr)
    exact tracks_of_same rfl rfl
  · exact tracks_of_same rfl rfl

theorem tracks_shiftStep : Tracks o s s.shiftStep := tracks_shiftBit.trans tracks_countShift

theorem tracks_tickSr : Tracks o s s.tickSr := by
  unfold State.tickSr
  split
  · split
    · refine Tracks.trans ?_ tracks_shiftStep
      exact tracks_of_same rfl rfl
    · exact tracks_of_same rfl rfl
  · exact tracks_refl

theorem tracks_srTimer2Edge : Tracks o s s.srTimer2Edge := by
  unfold State.srTimer2Edge
  split
  · exact tracks_shiftStep
  · exact tracks_refl

theorem tracks_srExtEdge (level : Bool) : Tracks o s (s.srExtEdge level) := by
  unfold State.srExtEdge
  split
  · exact tracks_shiftStep
  · exact tracks_refl

/-- R134: the toggle is the only thing that moves the Timer 1 output, and it reports the new level. -/
theorem tracks_t1Reload : Tracks o s s.t1Reload := by
  unfold State.t1Reload
  split
  · cases o with
    | t1 => exact ⟨_, rfl, .inl rfl⟩
    | irq | ca2 | cb2 => exact tracks_of_quiet rfl rfl rfl
  · exact tracks_of_same rfl rfl

theorem tracks_t1Action : Tracks o s s.t1Action := by
  unfold State.t1Action
  split
  · exact (tracks_ifrSet .t1).trans tracks_t1Reload
  · refine (tracks_ifrSet .t1).trans ?_
    exact tracks_of_same rfl rfl

theorem tracks_t2Action : Tracks o s s.t2Action := by
  unfold State.t2Action
  refine Tracks.trans (Tracks.trans ?_ (tracks_ifrSet .t2)) tracks_srTimer2Edge
  exact tracks_of_same rfl rfl

theorem tracks_tickT1 (l1 : Nat) : Tracks o s (s.tickT1 l1) := by
  rw [tickT1_eq]
  split
  · refine Tracks.trans ?_ tracks_t1Action
    exact tracks_of_same rfl rfl
  · exact tracks_of_same rfl rfl

theorem tracks_tickT2 (l2 : Nat) : Tracks o s (s.tickT2 l2) := by
  rw [tickT2_eq]
  split
  · refine Tracks.trans ?_ tracks_t2Action
    exact tracks_of_same rfl rfl
  · exact tracks_of_same rfl rfl

theorem tracks_tick (l1 l2 : Nat) : Tracks o s (s.tick l1 l2) :=
  ((tracks_tickT1 l1).trans (tracks_tickT2 l2)).trans tracks_tickSr

/-! ### The edges -/

theorem tracks_edgePb6 (level : Bool) : Tracks o s (s.edgePb6 level) := by
  unfold State.edgePb6
  split
  · split
    · refine Tracks.trans ?_ tracks_t2Action
      exact tracks_of_same rfl rfl
    · exact tracks_of_same rfl rfl
  · exact tracks_refl

theorem tracks_edgeCa1 (level : Bool) : Tracks o s (s.edgeCa1 level) := by
  rw [edgeCa1_eq]
  split
  · exact tracks_of_irq_alone rfl rfl rfl
  · rw [← irqUpdate_eq]
    exact tracks_irqUpdate

theorem tracks_edgeCb1 (level : Bool) : Tracks o s (s.edgeCb1 level) := by
  rw [edgeCb1_eq]
  split
  · refine Tracks.trans ?_ (tracks_srExtEdge level)
    exact tracks_of_irq_alone rfl rfl rfl
  · rw [← irqUpdate_eq]
    exact tracks_irqUpdate.trans (tracks_srExtEdge level)

/-- R193: an edge moves CA2 without a report only where CA2 is an input. -/
theorem tracks_edgeCa2 (level : Bool) (ho : o = .ca2 → s.pcr.getLsbD 3 = true) : Tracks o s (s.edgeCa2 level) := by
  rw [edgeCa2_eq]
  split
  next => exact tracks_refl
  next hinput =>
    refine tracks_of_irq rfl rfl fun hirq => ?_
    cases o with
    | irq => exact absurd rfl hirq
    | ca2 => exact absurd (ho rfl) hinput
    | t1 | cb2 => rfl

/-- R195: the same for CB2. -/
theorem tracks_edgeCb2 (level : Bool) (ho : o = .cb2 → s.pcr.getLsbD 7 = true) : Tracks o s (s.edgeCb2 level) := by
  rw [edgeCb2_eq]
  split
  next => exact tracks_refl
  next hinput =>
    refine tracks_of_irq rfl rfl fun hirq => ?_
    cases o with
    | irq => exact absurd rfl hirq
    | cb2 => exact absurd (ho rfl) hinput
    | t1 | ca2 => rfl

end

/-! ### Every operation -/

/-- R63, operation by operation, for those that R63 does not except for every line. -/
theorem exec_tracks (o : Output) {i : Instr} {s t : State} (h : exec i s = .next t)
    (hi : commandIn i [0xC1#8, 0xC2#8, 0xC4#8] = false)
    (hca2 : o = .ca2 → commandIn i [0xD2#8, 0xD3#8] = true → s.pcr.getLsbD 3 = true)
    (hcb2 : o = .cb2 → commandIn i [0xD6#8, 0xD7#8] = true → s.pcr.getLsbD 7 = true) : Tracks o s.begin t := by
  obtain ⟨hreset, hinit, hsnapr⟩ := not_control_of_commandIn hi
  cases i with
  | reset => exact absurd rfl hreset
  | init => exact absurd rfl hinit
  | snapr b => exact absurd rfl (hsnapr b)
  | stOrb v =>
    cases h
    refine Tracks.trans (Tracks.trans ?_ (tracks_ifrClear _)) tracks_hsAccessB
    exact tracks_of_event rfl (by cases o <;> rfl) rfl
  | stOra v =>
    cases h
    refine Tracks.trans (Tracks.trans ?_ (tracks_ifrClear _)) tracks_hsAccessA
    exact tracks_of_event rfl (by cases o <;> rfl) rfl
  | stDdrb v | stDdra v | stT2cl v | stOrax v => cases h; exact tracks_of_event rfl (by cases o <;> rfl) rfl
  | stT1ch v | stT1lh v | stT2ch v =>
    cases h
    refine Tracks.trans ?_ (tracks_ifrClear _)
    exact tracks_of_same rfl rfl
  | stSr v =>
    cases h
    refine Tracks.trans (Tracks.trans ?_ (tracks_ifrClear _)) tracks_srRestart
    exact tracks_of_event rfl (by cases o <;> rfl) rfl
  | stAcr v =>
    cases h
    refine Tracks.trans ?_ (tracks_acrChange _ _)
    exact tracks_of_event rfl (by cases o <;> rfl) rfl
  | stPcr v =>
    cases h
    refine Tracks.trans (Tracks.trans ?_ (tracks_rederiveA _ _)) (tracks_rederiveB _ _)
    exact tracks_of_event rfl (by cases o <;> rfl) rfl
  | stIfr v => cases h; exact tracks_ifrClear v
  | stIer v =>
    cases h
    refine Tracks.trans ?_ tracks_irqUpdate
    exact tracks_of_same rfl rfl
  | rdOrb =>
    cases h
    refine Tracks.trans (Tracks.trans (Tracks.trans ?_ tracks_loadInputLatchB) (tracks_ifrClear _)) tracks_hsAccessB
    exact tracks_of_same rfl rfl
  | rdOra =>
    cases h
    refine Tracks.trans (Tracks.trans (Tracks.trans ?_ tracks_loadInputLatchA) (tracks_ifrClear _)) tracks_hsAccessA
    exact tracks_of_same rfl rfl
  | rdOrax =>
    cases h
    refine Tracks.trans ?_ tracks_loadInputLatchA
    exact tracks_of_same rfl rfl
  | rdT1cl | rdT2cl =>
    cases h
    refine Tracks.trans ?_ (tracks_ifrClear _)
    exact tracks_of_same rfl rfl
  | rdSr =>
    cases h
    refine Tracks.trans (Tracks.trans ?_ (tracks_ifrClear _)) tracks_srRestart
    exact tracks_of_same rfl rfl
  | tick => cases h; exact tracks_tick _ _
  | edgeCa1Fall | edgeCa1Rise => cases h; exact tracks_edgeCa1 _
  | edgeCa2Fall | edgeCa2Rise => cases h; exact tracks_edgeCa2 _ fun ho => hca2 ho rfl
  | edgeCb1Fall | edgeCb1Rise => cases h; exact tracks_edgeCb1 _
  | edgeCb2Fall | edgeCb2Rise => cases h; exact tracks_edgeCb2 _ fun ho => hcb2 ho rfl
  | edgePb6Fall | edgePb6Rise => cases h; exact tracks_edgePb6 _
  | _ => cases h; exact tracks_of_same rfl rfl

/-- R174 (c): the interrupt output has no exception but INIT. -/
theorem exec_tracks_irq {i : Instr} {s t : State} (h : exec i s = .next t) (hi : i ≠ .init) :
    Tracks .irq s.begin t := by
  by_cases hcontrol : commandIn i [0xC1#8, 0xC2#8, 0xC4#8] = false
  · exact exec_tracks .irq h hcontrol nofun nofun
  · cases i with
    | reset =>
      cases h
      refine Tracks.trans (t := s.begin.forceDefaults.drawAtReset.irqUpdate) ?_ (tracks_of_event rfl rfl rfl)
      rw [irqUpdate_eq]
      exact tracks_of_irq rfl rfl fun ho => absurd rfl ho
    | init => exact absurd rfl hi
    | snapr b =>
      obtain ⟨-, rfl⟩ | rfl := snapr_cases h
      · exact ⟨_, rfl, .inl rfl⟩
      · exact tracks_of_same rfl rfl
    | _ => exact absurd rfl hcontrol

/-! ### A line that becomes an output -/

theorem eq_stPcr_of_commandIn {i : Instr} (h : commandIn i [0x0C#8] = true) : ∃ v, i = .stPcr v := by
  cases i with
  | stPcr v => exact ⟨v, rfl⟩
  | _ => cases h

/-- Only a PCR store can change a bit of PCR. -/
theorem exec_eq_stPcr_of_pcr_ne {i : Instr} {s t : State} (h : exec i s = .next t)
    (hi : commandIn i [0xC1#8, 0xC2#8, 0xC4#8] = false) (hne : t.pcr ≠ s.pcr) : i = .stPcr t.pcr := by
  have after : t.pcr = (registersAfter i s.registers).pcr := congrArg Registers.pcr (exec_registers h hi)
  cases hstore : commandIn i [0x0C#8]
  · exact absurd (after.trans (registersAfter_pcr _ hstore)) hne
  · obtain ⟨v, rfl⟩ := eq_stPcr_of_commandIn hstore
    exact congrArg Instr.stPcr after.symm

theorem ca2Mode_getLsbD_two (pcr : Byte) : (ca2Mode pcr).getLsbD 2 = pcr.getLsbD 3 := by
  simp [ca2Mode]

theorem ca2Mode_ne_of_direction {old new : Byte} (hold : old.getLsbD 3 = false) (hnew : new.getLsbD 3 = true) :
    ca2Mode old ≠ ca2Mode new := by
  intro heq
  have hbit : old.getLsbD 3 = new.getLsbD 3 := by rw [← ca2Mode_getLsbD_two, heq, ca2Mode_getLsbD_two]
  exact Bool.false_ne_true (hold.symm.trans (hbit.trans hnew))

theorem cb2Mode_getLsbD_two (pcr : Byte) : (cb2Mode pcr).getLsbD 2 = pcr.getLsbD 7 := by
  simp [cb2Mode]

theorem cb2Mode_ne_of_direction {old new : Byte} (hold : old.getLsbD 7 = false) (hnew : new.getLsbD 7 = true) :
    cb2Mode old ≠ cb2Mode new := by
  intro heq
  have hbit : old.getLsbD 7 = new.getLsbD 7 := by rw [← cb2Mode_getLsbD_two, heq, cb2Mode_getLsbD_two]
  exact Bool.false_ne_true (hold.symm.trans (hbit.trans hnew))

/-- R197: a PCR store that changes the mode of CA2 reports its idle level, once. -/
theorem stPcr_reports_ca2 {s t : State} {v : Byte} (h : exec (.stPcr v) s = .next t)
    (hmode : ca2Mode s.pcr ≠ ca2Mode v) : ca2Levels t.events = [t.ca2Out] := by
  cases h
  unfold State.rederiveB State.rederiveA
  rw [if_neg hmode]
  split <;> rfl

theorem stPcr_reports_cb2 {s t : State} {v : Byte} (h : exec (.stPcr v) s = .next t)
    (hmode : cb2Mode s.pcr ≠ cb2Mode v) : cb2Levels t.events = [t.cb2Out] := by
  cases h
  unfold State.rederiveB State.rederiveA
  rw [if_neg hmode]
  split <;> rfl

theorem exec_reports_ca2_output {i : Instr} {s t : State} (h : exec i s = .next t)
    (hi : commandIn i [0xC1#8, 0xC2#8, 0xC4#8] = false) (hs : s.pcr.getLsbD 3 = false) (ht : t.pcr.getLsbD 3 = true) :
    ca2Levels t.events = [t.ca2Out] := by
  have hne : t.pcr ≠ s.pcr := fun heq => Bool.false_ne_true (hs.symm.trans (heq ▸ ht))
  rw [exec_eq_stPcr_of_pcr_ne h hi hne] at h
  exact stPcr_reports_ca2 h (ca2Mode_ne_of_direction hs ht)

theorem exec_reports_cb2_output {i : Instr} {s t : State} (h : exec i s = .next t)
    (hi : commandIn i [0xC1#8, 0xC2#8, 0xC4#8] = false) (hs : s.pcr.getLsbD 7 = false) (ht : t.pcr.getLsbD 7 = true) :
    cb2Levels t.events = [t.cb2Out] := by
  have hne : t.pcr ≠ s.pcr := fun heq => Bool.false_ne_true (hs.symm.trans (heq ▸ ht))
  rw [exec_eq_stPcr_of_pcr_ne h hi hne] at h
  exact stPcr_reports_cb2 h (cb2Mode_ne_of_direction hs ht)

/-! ### EDGE of an input line -/

/-- R193: the level of an input CA2 is the notified one, and no event reports it. -/
theorem edgeCa2_input {s : State} (level : Bool) (hinput : s.pcr.getLsbD 3 = false) :
    ca2Levels (s.begin.edgeCa2 level).events = [] ∧ (s.begin.edgeCa2 level).ca2Out = level := by
  have hnot : ¬ s.begin.pcr.getLsbD 3 = true := Bool.eq_false_iff.1 hinput
  rw [edgeCa2_eq, if_neg hnot]
  exact ⟨rfl, rfl⟩

theorem edgeCb2_input {s : State} (level : Bool) (hinput : s.pcr.getLsbD 7 = false) :
    cb2Levels (s.begin.edgeCb2 level).events = [] ∧ (s.begin.edgeCb2 level).cb2Out = level := by
  have hnot : ¬ s.begin.pcr.getLsbD 7 = true := Bool.eq_false_iff.1 hinput
  rw [edgeCb2_eq, if_neg hnot]
  exact ⟨rfl, rfl⟩

theorem exec_edgeCa2_input {i : Instr} {s t : State} (h : exec i s = .next t)
    (hi : commandIn i [0xD2#8, 0xD3#8] = true) (hinput : s.pcr.getLsbD 3 = false) :
    ca2Levels t.events = [] ∧ t.ca2Out = (cmdOf i).getLsbD 0 := by
  cases i with
  | edgeCa2Fall => cases h; exact edgeCa2_input false hinput
  | edgeCa2Rise => cases h; exact edgeCa2_input true hinput
  | _ => cases hi

theorem exec_edgeCb2_input {i : Instr} {s t : State} (h : exec i s = .next t)
    (hi : commandIn i [0xD6#8, 0xD7#8] = true) (hinput : s.pcr.getLsbD 7 = false) :
    cb2Levels t.events = [] ∧ t.cb2Out = (cmdOf i).getLsbD 0 := by
  cases i with
  | edgeCb2Fall => cases h; exact edgeCb2_input false hinput
  | edgeCb2Rise => cases h; exact edgeCb2_input true hinput
  | _ => cases hi

/-- Settles O54. -/
theorem levelOutputsAreTheLastReportedLevels : Obligations.LevelOutputsAreTheLastReportedLevels := by
  intro i s t h
  refine ⟨fun hinit => (exec_tracks_irq h hinit).lastReport, fun hi => ⟨?_, fun hca2 => ?_, fun hcb2 => ?_, ?_, ?_⟩,
    exec_edgeCa2_input h, exec_edgeCb2_input h⟩
  · exact (exec_tracks .t1 h hi nofun nofun).lastReport
  · exact (exec_tracks .ca2 h hi (fun _ => hca2) nofun).lastReport
  · exact (exec_tracks .cb2 h hi nofun (fun _ => hcb2)).lastReport
  · exact exec_reports_ca2_output h hi
  · exact exec_reports_cb2_output h hi

end Sys2Proof.Machine
end

section
/-! What the environment presents, and the count of free values drawn: no operation changes the one, and the other grows
with RESET and INIT alone (10_state.md R60, R67, 46_system_snapshot.md R320, R321). What the operation before returned is
emptied first, so it is not seen (10_state.md R62, R65). -/

namespace Sys2Proof.Machine

open Sys2Proof.Safety

/-- The model's own fields beside what the last operation returned (entries 1, 2 and 4). -/
structure Environment where
  stream : List Byte
  pinFeed : List Pins
  paIn : Byte
  pbIn : Byte
  draws : Nat

def State.environment (s : State) : Environment := ⟨s.stream, s.pinFeed, s.paIn, s.pbIn, s.draws⟩

/-- How many free values an operation draws (46_system_snapshot.md R320, R321). -/
def drawsOf (i : Instr) : Nat :=
  match i with
  | .reset => 7
  | .init => 20
  | _ => 0

/-! ### The procedures leave the environment alone -/

theorem environment_ite {c : Prop} [Decidable c] {x y s : State} (hx : x.environment = s.environment)
    (hy : y.environment = s.environment) : (if c then x else y).environment = s.environment := by
  split
  · exact hx
  · exact hy

theorem loadInputLatchA_environment (s : State) : s.loadInputLatchA.environment = s.environment :=
  environment_ite rfl rfl

theorem loadInputLatchB_environment (s : State) : s.loadInputLatchB.environment = s.environment :=
  environment_ite rfl rfl

theorem rederiveA_environment (old new : Byte) (s : State) : (s.rederiveA old new).environment = s.environment :=
  environment_ite rfl rfl

theorem rederiveB_environment (old new : Byte) (s : State) : (s.rederiveB old new).environment = s.environment :=
  environment_ite rfl rfl

theorem acrShiftChange_environment (old new : Byte) (s : State) :
    (s.acrShiftChange old new).environment = s.environment :=
  environment_ite rfl rfl

theorem acrTimer2Change_environment (old new : Byte) (s : State) :
    (s.acrTimer2Change old new).environment = s.environment :=
  environment_ite rfl rfl

theorem edgeCa1_environment (level : Bool) (s : State) : (s.edgeCa1 level).environment = s.environment :=
  environment_ite rfl rfl

theorem edgeCa2_environment (level : Bool) (s : State) : (s.edgeCa2 level).environment = s.environment :=
  environment_ite rfl rfl

theorem edgeCb2_environment (level : Bool) (s : State) : (s.edgeCb2 level).environment = s.environment :=
  environment_ite rfl rfl

theorem srTimer2Edge_environment (s : State) : s.srTimer2Edge.environment = s.environment := by
  rw [srTimer2Edge_eq]
  exact environment_ite rfl rfl

theorem srExtEdge_environment (s : State) (level : Bool) : (s.srExtEdge level).environment = s.environment := by
  rw [srExtEdge_eq]
  exact environment_ite rfl rfl

theorem tickSr_environment (s : State) : s.tickSr.environment = s.environment := by
  rw [tickSr_eq]
  exact environment_ite (environment_ite rfl rfl) rfl

theorem edgeCb1_environment (level : Bool) (s : State) : (s.edgeCb1 level).environment = s.environment :=
  environment_ite (srExtEdge_environment _ level) (srExtEdge_environment _ level)

theorem t1Action_environment (s : State) : s.t1Action.environment = s.environment := by
  rw [t1Action_eq]
  rfl

theorem t2Action_environment (s : State) : s.t2Action.environment = s.environment := by
  rw [t2Action_eq]
  exact srTimer2Edge_environment _

theorem tickT1_environment (l1 : Nat) (s : State) : (s.tickT1 l1).environment = s.environment := by
  rw [tickT1_eq]
  exact environment_ite (t1Action_environment _) rfl

theorem tickT2_environment (l2 : Nat) (s : State) : (s.tickT2 l2).environment = s.environment := by
  rw [tickT2_eq]
  exact environment_ite (t2Action_environment _) rfl

theorem tick_environment (l1 l2 : Nat) (s : State) : (s.tick l1 l2).environment = s.environment :=
  calc (s.tick l1 l2).environment
    _ = ((s.tickT1 l1).tickT2 l2).environment := tickSr_environment _
    _ = (s.tickT1 l1).environment := tickT2_environment l2 _
    _ = s.environment := tickT1_environment l1 s

theorem edgePb6_environment (level : Bool) (s : State) : (s.edgePb6 level).environment = s.environment :=
  environment_ite (environment_ite (t2Action_environment _) rfl) rfl

theorem snapshotRead_environment (l1 l2 : Nat) (b : List Byte) (s : State) :
    (s.snapshotRead l1 l2 b).environment = s.environment :=
  environment_ite rfl rfl

/-! ### Every operation -/

/-- What is presented stays, and as many free values are drawn as the operation draws. -/
theorem exec_environment {i : Instr} {s t : State} (h : exec i s = .next t) :
    t.environment = { s.environment with draws := s.draws + drawsOf i } := by
  cases i with
  | stAcr v => cases h; exact (acrTimer2Change_environment _ _ _).trans (acrShiftChange_environment _ _ _)
  | stPcr v => cases h; exact (rederiveB_environment _ _ _).trans (rederiveA_environment _ _ _)
  | rdOrb => cases h; exact loadInputLatchB_environment (s.begin.returnByte s.portBValue)
  | rdOra => cases h; exact loadInputLatchA_environment (s.begin.returnByte s.portAValue)
  | rdOrax => cases h; exact loadInputLatchA_environment _
  | tick => cases h; exact tick_environment _ _ _
  | snapr b => cases h; exact snapshotRead_environment _ _ _ _
  | edgeCa1Fall | edgeCa1Rise => cases h; exact edgeCa1_environment _ _
  | edgeCa2Fall | edgeCa2Rise => cases h; exact edgeCa2_environment _ _
  | edgeCb1Fall | edgeCb1Rise => cases h; exact edgeCb1_environment _ _
  | edgeCb2Fall | edgeCb2Rise => cases h; exact edgeCb2_environment _ _
  | edgePb6Fall | edgePb6Rise => cases h; exact edgePb6_environment _ _
  | _ => cases h; rfl

theorem drawsOf_eq_zero {i : Instr} (h : commandIn i [0xC1#8, 0xC2#8] = false) : drawsOf i = 0 := by
  cases i with
  | reset | init => cases h
  | _ => rfl

/-- Every meaning sets out from the state with the last event list and result emptied, and reads neither. -/
theorem exec_begin (i : Instr) (s : State) : exec i s.begin = exec i s := by
  cases i <;> rfl

theorem exec_congr_begin (i : Instr) {s s' : State} (h : s.begin = s'.begin) : exec i s = exec i s' := by
  rw [← exec_begin i s, h, exec_begin]

/-- Settles O58. -/
theorem operationsLeaveTheEnvironmentAlone : Obligations.OperationsLeaveTheEnvironmentAlone := by
  intro i s t h
  have after := exec_environment h
  simp only [State.environment, Environment.mk.injEq] at after
  obtain ⟨hstream, hfeed, hpa, hpb, hdraws⟩ := after
  refine ⟨hstream, hfeed, hpa, hpb, fun hi => ?_, fun es r => ?_⟩
  · rw [hdraws, drawsOf_eq_zero hi, Nat.add_zero]
  · exact (exec_congr_begin i rfl).trans h

end Sys2Proof.Machine
end

section
/-! Decoding and the step: what the decoder accepts is well formed (30_encoding.md R101, R110), and the step performs it
in the state as it is presented (20_memory.md R88, R92, 30_encoding.md R102). -/

namespace Sys2Proof

theorem storeOp_wellFormed (a : BitVec 4) (v : Byte) : (storeOp a v).wellFormed = true := by
  unfold storeOp
  split <;> rfl

theorem readOp_wellFormed (a : BitVec 4) : (readOp a).wellFormed = true := by
  unfold readOp
  split <;> rfl

theorem peekOp_wellFormed (a : BitVec 4) : (peekOp a).wellFormed = true := by
  unfold peekOp
  split <;> rfl

theorem edgeOp_wellFormed (line : Line) (level : Bool) : (edgeOp line level).wellFormed = true := by
  unfold edgeOp
  split <;> rfl

/-- A decoded SNAPR has a payload of exactly 22 bytes; no other operation can be ill formed. -/
theorem wellFormed_of_decode {bytes rest : List Byte} {i : Instr} (h : decode bytes = .ok (i, rest)) :
    i.wellFormed = true := by
  cases bytes with
  | nil => cases h
  | cons cmd tail =>
    dsimp only [decode] at h
    cases hkind : decodeCmd cmd with rw [hkind] at h
    | store a =>
      cases tail with
      | nil => cases h
      | cons v rest => cases h; exact storeOp_wellFormed a v
    | read a => cases h; exact readOp_wellFormed a
    | peek a => cases h; exact peekOp_wellFormed a
    | edge line level => cases h; exact edgeOp_wellFormed line level
    | snapr =>
      dsimp only at h
      split at h
      next hlen =>
        cases h
        simpa [Instr.wellFormed] using hlen
      next => cases h
    | tick | reset | init | snapw => cases h; rfl
    | invalid => cases h

end Sys2Proof

namespace Sys2Proof.Machine

theorem step_of_decode {s : State} {i : Instr} {rest : List Byte} (h : decode s.stream = .ok (i, rest)) :
    step s = exec i (s.present rest) := by
  unfold step
  rw [h]

/-- Settles O1: by whether pins are presented with the operation. -/
theorem stepPerformsTheDecodedOperation : Obligations.StepPerformsTheDecodedOperation := by
  intro s i rest h
  refine ⟨wellFormed_of_decode h, ?_⟩
  rw [step_of_decode h]
  unfold State.present State.nextPins
  cases s.pinFeed with
  | nil => rfl
  | cons p feed => rfl

end Sys2Proof.Machine
end

section
/-! The command byte that names each kind of operation, and the encoding laws it gives: decoding and encoding are each
other's inverse (30_encoding.md R101, R105 to R109), the command byte alone decides the length (R101, R111) and whether
there is an operation at all (R110). -/

namespace Sys2Proof

open Sys2Proof.Machine Sys2Proof.Safety

/-! ### The command byte of a kind -/

/-- 30_encoding.md R103: the number of a line. -/
def Line.number (line : Line) : BitVec 3 :=
  match line with
  | .ca1 => 0#3
  | .ca2 => 1#3
  | .cb1 => 2#3
  | .cb2 => 3#3
  | .pb6 => 4#3

/-- 30_encoding.md R105 to R109: the command byte that names a kind, put together from its fields; none names
`invalid`. -/
def Kind.command (k : Kind) : Option Byte :=
  match k with
  | .store a => some (a.setWidth 8)
  | .read a => some (0x40#8 + a.setWidth 8)
  | .peek a => some (0x80#8 + a.setWidth 8)
  | .tick => some 0xC0#8
  | .reset => some 0xC1#8
  | .init => some 0xC2#8
  | .snapw => some 0xC3#8
  | .snapr => some 0xC4#8
  | .edge line level => some (0xD0#8 + 2#8 * line.number.setWidth 8 + (BitVec.ofBool level).setWidth 8)
  | .invalid => none

theorem controlKind_eq_invalid_iff : ∀ a : BitVec 4, controlKind a = .invalid ↔ 5 ≤ a.toNat := by
  decide

theorem edgeKind_eq_invalid_iff : ∀ a : BitVec 4, edgeKind a = .invalid ↔ 10 ≤ a.toNat := by
  decide

/-- The control event at `a` has the command byte 0xC0 + `a`. -/
theorem command_controlKind :
    ∀ a : BitVec 4, controlKind a ≠ .invalid → (controlKind a).command = some (0xC0#8 + a.setWidth 8) := by
  decide

/-- The edge at `a` has the command byte 0xD0 + `a`. -/
theorem command_edgeKind :
    ∀ a : BitVec 4, edgeKind a ≠ .invalid → (edgeKind a).command = some (0xD0#8 + a.setWidth 8) := by
  decide

/-! ### The kind of a command byte -/

/-- 30_encoding.md R101: a command byte is its fields `cls`, `sub` and `a`, and nothing else. -/
theorem cmd_fields (cmd : Byte) :
    cmd.toNat = 64 * (cmd.extractLsb' 6 2).toNat + 16 * (cmd.extractLsb' 4 2).toNat + (cmd.extractLsb' 0 4).toNat := by
  simp only [BitVec.extractLsb'_toNat]
  omega

/-- No bit of a command byte is ignored: its kind has no other command byte. -/
theorem command_decodeCmd {cmd : Byte} (h : decodeCmd cmd ≠ .invalid) : (decodeCmd cmd).command = some cmd := by
  have fields := cmd_fields cmd
  unfold decodeCmd at h ⊢
  dsimp only at h ⊢
  split at h
  case h_6 => contradiction
  case h_4 => rw [command_controlKind _ h, Option.some.injEq]; bv_omega
  case h_5 => rw [command_edgeKind _ h, Option.some.injEq]; bv_omega
  all_goals
    simp only [Kind.command, Option.some.injEq]
    bv_omega

/-- By the fields: which values of `cls` and `sub` have a class of operation, and which `a` of the class one names. -/
theorem decodeCmd_eq_invalid_iff (cmd : Byte) : decodeCmd cmd = .invalid ↔ NamesNoOperation cmd := by
  have fields := cmd_fields cmd
  unfold decodeCmd NamesNoOperation
  dsimp only
  split
  case h_4 => rw [controlKind_eq_invalid_iff]; omega
  case h_5 => rw [edgeKind_eq_invalid_iff]; omega
  case h_6 hstore hread hpeek hcontrol hedge =>
    simp only [imp_false] at hstore hread hpeek hcontrol hedge
    simp only [true_iff]
    omega
  all_goals
    simp only [reduceCtorEq, false_iff]
    omega

theorem operationLength_eq (cmd : Byte) :
    operationLength cmd = if cmd.toNat < 0x40 then 2 else if cmd.toNat = 0xC4 then 23 else 1 := by
  have cls : cmd.extractLsb' 6 2 = 0#2 ↔ cmd.toNat < 0x40 := by
    rw [← BitVec.toNat_inj, BitVec.extractLsb'_toNat]
    simp only [BitVec.toNat_ofNat]
    omega
  have snapr : cmd = 0xC4#8 ↔ cmd.toNat = 0xC4 := BitVec.toNat_inj.symm
  simp only [operationLength, cls, snapr]

/-! ### Encoding and decoding -/

theorem decode_snapr {payload : List Byte} (rest : List Byte) (h : payload.length = snapshotLength) :
    decode (0xC4#8 :: (payload ++ rest)) = .ok (.snapr payload, rest) := by
  have enough : snapshotLength ≤ (payload ++ rest).length := by
    rw [List.length_append]
    omega
  calc decode (0xC4#8 :: (payload ++ rest))
      = if snapshotLength ≤ (payload ++ rest).length then
          .ok (.snapr ((payload ++ rest).take snapshotLength), (payload ++ rest).drop snapshotLength)
        else .error (.truncated 0xC4#8) := rfl
    _ = .ok (.snapr payload, rest) := by
        rw [if_pos enough, List.take_left' h, List.drop_left' h]

/-- By the operation: but for SNAPR the command byte alone says where the operation ends. -/
theorem decode_encode (i : Instr) (rest : List Byte) (h : i.wellFormed = true) :
    decode (encode i ++ rest) = .ok (i, rest) := by
  cases i with
  | snapr payload => exact decode_snapr rest (eq_of_beq h)
  | _ =>
    dsimp only [encode, cmdOf]
    rfl

theorem encode_storeOp (a : BitVec 4) (v : Byte) : encode (storeOp a v) = [a.setWidth 8, v] := by
  unfold storeOp
  split <;> simp only [imp_false, encode, cmdOf, operandsOf, List.cons.injEq, and_true] at * <;> bv_omega

theorem encode_readOp : ∀ a : BitVec 4, encode (readOp a) = [0x40#8 + a.setWidth 8] := by
  decide

theorem encode_peekOp : ∀ a : BitVec 4, encode (peekOp a) = [0x80#8 + a.setWidth 8] := by
  decide

theorem encode_edgeOp (line : Line) (level : Bool) :
    encode (edgeOp line level) = [0xD0#8 + 2#8 * line.number.setWidth 8 + (BitVec.ofBool level).setWidth 8] := by
  cases line <;> cases level <;> rfl

/-- By the kind of the command byte, which has no other command byte. -/
theorem encode_of_decode {bytes rest : List Byte} {i : Instr} (h : decode bytes = .ok (i, rest)) :
    bytes = encode i ++ rest := by
  cases bytes with
  | nil => cases h
  | cons cmd tail =>
    have command := @command_decodeCmd cmd
    dsimp only [decode] at h
    cases hkind : decodeCmd cmd with rw [hkind] at h command
    | invalid => cases h
    | store a =>
      cases tail with
      | nil => cases h
      | cons v rest => cases h; cases command nofun; rw [encode_storeOp]; rfl
    | read a => cases h; cases command nofun; rw [encode_readOp]; rfl
    | peek a => cases h; cases command nofun; rw [encode_peekOp]; rfl
    | edge line level => cases h; cases command nofun; rw [encode_edgeOp]; rfl
    | snapr =>
      cases command nofun
      dsimp only at h
      split at h
      next =>
        cases h
        exact congrArg _ (List.take_append_drop snapshotLength tail).symm
      next => cases h
    | tick | reset | init | snapw => cases h; cases command nofun; rfl

theorem length_encode {i : Instr} (h : i.wellFormed = true) : (encode i).length = operationLength (cmdOf i) := by
  cases i with
  | snapr payload => exact Laws.EncodedLength.snapr payload h
  | _ =>
    dsimp only [encode, cmdOf]
    rfl

/-- Where the operand bytes are there, only the command byte can refuse (R101, R110). -/
theorem decode_isOk {cmd : Byte} {tail : List Byte} (hcmd : decodeCmd cmd ≠ .invalid)
    (hlen : operationLength cmd ≤ tail.length + 1) : ∃ i rest, decode (cmd :: tail) = .ok (i, rest) := by
  have command := command_decodeCmd hcmd
  dsimp only [decode]
  cases hkind : decodeCmd cmd with rw [hkind] at command
  | store a =>
    cases tail with
    | nil =>
      have two : operationLength cmd = 2 := by
        cases command
        rw [operationLength_eq, if_pos]
        bv_omega
      rw [two] at hlen
      contradiction
    | cons v rest => exact ⟨_, _, rfl⟩
  | snapr =>
    have enough : snapshotLength ≤ tail.length := by
      cases command
      exact Nat.le_of_succ_le_succ hlen
    exact ⟨_, _, if_pos enough⟩
  | invalid => contradiction
  | read a | peek a | tick | reset | init | snapw | edge line level => exact ⟨_, _, rfl⟩

/-! ### The statements -/

/-- Settles O4. -/
theorem decodeOfEncodeIsTheOperation : Obligations.DecodeOfEncodeIsTheOperation :=
  decode_encode

/-- Settles O5. -/
theorem encodeOfDecodeIsTheBytes : Obligations.EncodeOfDecodeIsTheBytes :=
  fun _ _ _ h => ⟨encode_of_decode h, wellFormed_of_decode h⟩

/-- Settles O6: the decoder takes the bytes of the operation, and those are as many as the command byte says. -/
theorem lengthIsDecidedByTheCommandByte : Obligations.LengthIsDecidedByTheCommandByte := by
  intro cmd tail rest i h
  have bytes : cmd :: tail = encode i ++ rest := encode_of_decode h
  have hcmd : cmd = cmdOf i := (List.cons.inj bytes).1
  calc tail.length + 1
      = (encode i ++ rest).length := congrArg List.length bytes
    _ = rest.length + operationLength cmd := by
        rw [List.length_append, length_encode (wellFormed_of_decode h), hcmd, Nat.add_comm]
    _ = _ := by rw [operationLength_eq]

/-- Settles O2. -/
theorem commandBytesThatNameNoOperationAreRefused : Obligations.CommandBytesThatNameNoOperationAreRefused := by
  intro s cmd tail hstream
  refine ⟨fun hnone => ?_, fun hsome hlen => ?_⟩
  · have hinvalid : decodeCmd cmd = .invalid := (decodeCmd_eq_invalid_iff cmd).2 hnone
    simp only [step, hstream, decode, hinvalid, refusalOf]
  · obtain ⟨i, rest, h⟩ := decode_isOk (mt (decodeCmd_eq_invalid_iff cmd).1 hsome) hlen
    exact ⟨i, rest, hstream ▸ h, (List.cons.inj (encode_of_decode h)).1.symm⟩

/-- Settles O3: each word is the encoding of the operation beside it. -/
theorem wordsOfTheSpecDecode : Obligations.WordsOfTheSpecDecode :=
  ⟨decode_encode (.stOrb 0xA5#8) [] rfl, decode_encode (.stT1ch 0x12#8) [] rfl, decode_encode (.stOrax 0x00#8) [] rfl,
    decode_encode .rdIfr [] rfl, decode_encode .pkT1cl [] rfl, decode_encode .tick [] rfl, decode_encode .reset [] rfl,
    decode_encode .init [] rfl, decode_encode .snapw [] rfl, decode_encode .edgeCa1Fall [] rfl,
    decode_encode .edgeCb2Rise [] rfl, decode_encode .edgePb6Fall [] rfl⟩

end Sys2Proof
end

section
/-! One TICK and one falling edge of PB6 as equations of whole states (40_timers.md R130 to R140, 43_shift.md R222 to
R226): Timer 1's part, Timer 2's part, and one clock edge of the shifter, composed once. -/

namespace Sys2Proof.Machine

open Sys2Proof.Safety

/-! ### Flags raised by a mask -/

/-- The flags after the sources of a mask were set one after the other; without any, they are not recomputed (R172). -/
def raised (ifr ier mask : Byte) : Byte := if mask = 0#8 then ifr else combine (ifr ||| mask) ier

theorem raised_onlyIf (ifr ier : Byte) (c : Bool) {mask : Byte} (h : mask ≠ 0#8) :
    raised ifr ier (onlyIf c mask) = if c then combine (ifr ||| mask) ier else ifr := by
  cases c
  · rfl
  · exact if_neg h

theorem raised_raised (ifr ier a b : Byte) : raised (raised ifr ier a) ier b = raised ifr ier (a ||| b) := by
  unfold raised
  by_cases ha : a = 0#8 <;> by_cases hb : b = 0#8 <;>
    simp [ha, hb, combine_or_combine, BitVec.or_assoc]

theorem request_raised_or (ifr ier a m : Byte) :
    request (raised ifr ier a ||| m) ier = request (ifr ||| a ||| m) ier := by
  unfold raised
  split
  next h => rw [h, BitVec.or_zero]
  next => exact request_combine_or _ _ _

theorem raised_getLsbD_of_lt (ifr ier m : Byte) {k : Nat} (h : k < 7) :
    (raised ifr ier m).getLsbD k = (ifr.getLsbD k || m.getLsbD k) := by
  unfold raised
  split
  next hm => rw [hm, BitVec.getLsbD_zero, Bool.or_false]
  next => rw [combine_getLsbD_of_lt _ _ h, BitVec.getLsbD_or]

theorem onlyIf_bits (a b c : Bool) :
    let mask := onlyIf a 0x40#8 ||| onlyIf b 0x20#8 ||| onlyIf c 0x04#8
    mask.getLsbD 6 = a ∧ mask.getLsbD 5 = b ∧ mask.getLsbD 2 = c := by
  revert a b c
  decide

/-! ### The shifter -/

/-- One clock edge of the shifter, if there is one (R222). -/
def State.clocked (c : Bool) (s : State) : State := if c then afterShift s else s

theorem clocked_eq (c : Bool) (s : State) :
    s.clocked c = { s with
      sr := if c then shifted s else s.sr
      cb2 := if c && s.acr.getLsbD 4 then s.sr.getLsbD 7 else s.cb2
      srCount := if c then s.srCount + 1 else s.srCount
      ifr := raised s.ifr s.ier (onlyIf (c && s.srCount == 7) 0x04#8)
      events := s.events ++ (if c then shiftEvents s s.ifr else []) } := by
  rw [raised_onlyIf _ _ _ (by decide)]
  cases c <;> simp [State.clocked, afterShift]

/-- The events of a shift ask only for the enabled sources, so earlier recomputations leave no trace in them. -/
theorem shiftEvents_raised (s : State) (ifr mask : Byte) :
    shiftEvents s (raised ifr s.ier mask) = shiftEvents s (ifr ||| mask) := by
  unfold shiftEvents
  rw [request_raised_or]

/-- R226, then R225: the two sources exclude each other, so there is at most one clock edge. -/
theorem shifter_tick_eq (due : Bool) (s : State) :
    (if due then s.srTimer2Edge else s).tickSr =
      State.clocked (decide (s.srCount < 8) && ((shiftSource s == 1 && due) || (shiftSource s == 2 && s.srPhase)))
        { s with srPhase := if shiftSource s = 2 ∧ s.srCount < 8 then !s.srPhase else s.srPhase } := by
  have source (t : State) (h : t.acr = s.acr) : shiftSource t = shiftSource s := by unfold shiftSource; rw [h]
  by_cases hcount : s.srCount < 8
  case neg =>
    have halted : (if due then s.srTimer2Edge else s) = s := by
      cases due <;> simp [srTimer2Edge_eq, hcount]
    simp [halted, tickSr_eq, State.clocked, hcount]
  by_cases h1 : shiftSource s = 1
  case pos =>
    have idle : ∀ t : State, t.acr = s.acr → t.tickSr = t := fun t ht => by
      rw [tickSr_eq, if_neg (by simp [source t ht, h1])]
    cases due
    · simp [idle, h1, State.clocked]
    · simp [srTimer2Edge_eq, idle, h1, hcount, State.clocked, afterShift]
  have unclocked : (if due then s.srTimer2Edge else s) = s := by
    cases due <;> simp [srTimer2Edge_eq, h1]
  by_cases h2 : shiftSource s = 2
  · cases hphase : s.srPhase <;> simp [unclocked, tickSr_eq, State.clocked, hcount, h2, hphase]
  · simp [unclocked, tickSr_eq, State.clocked, h1, h2]

/-! ### Timer 1 -/

theorem t1Due_run {l1 : Nat} {s : State} (h : t1Due l1 s = true) : s.t1Run = true :=
  (Bool.and_eq_true_iff.1 h).1

/-- An action is due in the last cycle of the countdown: nothing stays pending. -/
theorem pend_of_t1Due {l1 : Nat} {s : State} (h : t1Due l1 s = true) :
    (if 0 < s.t1Pend then s.t1Pend - 1 else if s.t1c = 0#16 then l1 - 1 else 0) = 0 := by
  simp only [t1Due, Bool.and_eq_true, Bool.or_eq_true, beq_iff_eq] at h
  obtain ⟨-, hpend | ⟨⟨hpend, -⟩, hl⟩⟩ := h <;> simp [*]

/-- Timer 1's own fields in one TICK (R132, R134). -/
def timer1Ticked (l1 : Nat) (s : State) : State :=
  { s with
    t1c := if t1Due l1 s && s.acr.getLsbD 6 then s.t1lh ++ s.t1ll else if s.t1Run then s.t1c - 1#16 else s.t1c
    t1Pend := if s.t1Run = false then s.t1Pend
              else if 0 < s.t1Pend then s.t1Pend - 1
              else if s.t1c = 0#16 then l1 - 1 else 0
    t1Run := s.t1Run && !(t1Due l1 s && !s.acr.getLsbD 6)
    t1Fired := s.t1Fired || (t1Due l1 s && !s.acr.getLsbD 6)
    t1Out := if t1Due l1 s && s.acr.getLsbD 6 && s.acr.getLsbD 7 then !s.t1Out else s.t1Out
    ifr := raised s.ifr s.ier (onlyIf (t1Due l1 s) 0x40#8)
    events := s.events ++ (if t1Due l1 s then [.irq (request (s.ifr ||| 0x40#8) s.ier)] else []) ++
      (if t1Due l1 s && s.acr.getLsbD 6 && s.acr.getLsbD 7 then [.t1out (!s.t1Out)] else []) }

theorem tickT1_eq_timer1Ticked (l1 : Nat) (s : State) : s.tickT1 l1 = timer1Ticked l1 s := by
  rw [tickT1_eq]
  unfold timer1Ticked
  rw [raised_onlyIf _ _ _ (by decide)]
  cases hdue : t1Due l1 s
  case false => simp
  case true => simp [t1Action_eq, t1Due_run hdue, pend_of_t1Due hdue]

/-! ### Timer 2 -/

theorem t2Due_counts {l2 : Nat} {s : State} (h : t2Due l2 s = true) : timer2Counts s = true :=
  (Bool.and_eq_true_iff.1 h).1

theorem pend_of_t2Due {l2 : Nat} {s : State} (h : t2Due l2 s = true) :
    (if 0 < s.t2Pend then s.t2Pend - 1 else if s.t2c = 0#16 then l2 - 1 else 0) = 0 := by
  simp only [t2Due, Bool.and_eq_true, Bool.or_eq_true, beq_iff_eq] at h
  obtain ⟨-, hpend | ⟨⟨hpend, -⟩, hl⟩⟩ := h <;> simp [*]

/-- Timer 2's own fields in one TICK (R137, R138), before the shifter is clocked. -/
def timer2Ticked (l2 : Nat) (s : State) : State :=
  { s with
    t2c := if timer2Counts s then s.t2c - 1#16 else s.t2c
    t2Pend := if timer2Counts s = false then s.t2Pend
              else if 0 < s.t2Pend then s.t2Pend - 1
              else if s.t2c = 0#16 then l2 - 1 else 0
    t2Run := s.t2Run && !t2Due l2 s
    ifr := raised s.ifr s.ier (onlyIf (t2Due l2 s) 0x20#8)
    events := s.events ++ (if t2Due l2 s then [.irq (request (s.ifr ||| 0x20#8) s.ier)] else []) }

theorem tickT2_eq_timer2Ticked (l2 : Nat) (s : State) :
    s.tickT2 l2 = if t2Due l2 s then (timer2Ticked l2 s).srTimer2Edge else timer2Ticked l2 s := by
  rw [tickT2_eq]
  unfold timer2Ticked
  rw [raised_onlyIf _ _ _ (by decide)]
  cases hdue : t2Due l2 s
  case false => simp
  case true => simp [t2Action_eq, t2Due_counts hdue, pend_of_t2Due hdue]

/-! ### TICK -/

/-- The state after one TICK. -/
def State.ticked (s : State) : State := s.begin.tick Config.t1Latency Config.t2Latency

theorem exec_tick (s : State) : exec .tick s = .next s.ticked := rfl

/-- The two timers' parts of one TICK, and the phase of the shift clock, before the shifter is clocked. -/
def timersTicked (s : State) : State :=
  { timer2Ticked Config.t2Latency (timer1Ticked Config.t1Latency s.begin) with
    srPhase := if shiftSource s = 2 ∧ s.srCount < 8 then !s.srPhase else s.srPhase }

/-- Timer 1's part changes nothing that Timer 2's part asks for, and neither of them what clocks the shifter. -/
theorem ticked_eq_clocked (s : State) : s.ticked = (timersTicked s).clocked (shiftDue s) := by
  unfold State.ticked State.tick
  rw [tickT2_eq_timer2Ticked, shifter_tick_eq, tickT1_eq_timer1Ticked]
  rfl

theorem timersTicked_ifr (s : State) :
    (timersTicked s).ifr = raised s.ifr s.ier (onlyIf (timer1Due s) 0x40#8 ||| onlyIf (timer2Due s) 0x20#8) :=
  raised_raised _ _ _ _

theorem timersTicked_events (s : State) :
    (timersTicked s).events ++ (if shiftDue s then shiftEvents (timersTicked s) (timersTicked s).ifr else []) =
      tickEvents s := by
  have shift : shiftEvents (timersTicked s) (timersTicked s).ifr =
      shiftEvents s (s.ifr ||| onlyIf (timer1Due s) 0x40#8 ||| onlyIf (timer2Due s) 0x20#8) := by
    rw [timersTicked_ifr, BitVec.or_assoc]
    exact shiftEvents_raised s _ _
  have timer2 : request (raised s.ifr s.ier (onlyIf (timer1Due s) 0x40#8) ||| 0x20#8) s.ier =
      request (s.ifr ||| onlyIf (timer1Due s) 0x40#8 ||| 0x20#8) s.ier := request_raised_or _ _ _ _
  unfold tickEvents
  rw [shift, ← timer2]
  rfl

/-- R130: one TICK, field by field, with the latencies of the configuration. -/
theorem ticked_eq (s : State) :
    s.ticked = { s with
      t1c := if timer1Due s && s.acr.getLsbD 6 then s.t1lh ++ s.t1ll else if s.t1Run then s.t1c - 1#16 else s.t1c
      t1Pend := if s.t1Run = false then s.t1Pend
                else if 0 < s.t1Pend then s.t1Pend - 1
                else if s.t1c = 0#16 then Config.t1Latency - 1 else 0
      t1Run := s.t1Run && !(timer1Due s && !s.acr.getLsbD 6)
      t1Fired := s.t1Fired || (timer1Due s && !s.acr.getLsbD 6)
      t1Out := if timer1Due s && s.acr.getLsbD 6 && s.acr.getLsbD 7 then !s.t1Out else s.t1Out
      t2c := if timer2Counts s then s.t2c - 1#16 else s.t2c
      t2Pend := if timer2Counts s = false then s.t2Pend
                else if 0 < s.t2Pend then s.t2Pend - 1
                else if s.t2c = 0#16 then Config.t2Latency - 1 else 0
      t2Run := s.t2Run && !timer2Due s
      sr := if shiftDue s then shifted s else s.sr
      cb2 := if shiftDue s && s.acr.getLsbD 4 then s.sr.getLsbD 7 else s.cb2
      srCount := if shiftDue s then s.srCount + 1 else s.srCount
      srPhase := if shiftSource s = 2 ∧ s.srCount < 8 then !s.srPhase else s.srPhase
      ifr := raised s.ifr s.ier (tickSets s)
      events := tickEvents s
      result := .none } := by
  have flags : raised (timersTicked s).ifr (timersTicked s).ier
      (onlyIf (shiftDue s && (timersTicked s).srCount == 7) 0x04#8) = raised s.ifr s.ier (tickSets s) := by
    rw [timersTicked_ifr]
    exact raised_raised _ _ _ _
  rw [ticked_eq_clocked, clocked_eq, timersTicked_events, flags]
  rfl

theorem ticked_ifr_getLsbD (s : State) {k : Nat} (h : k < 7) :
    s.ticked.ifr.getLsbD k = (s.ifr.getLsbD k || (tickSets s).getLsbD k) := by
  rw [ticked_eq]
  exact raised_getLsbD_of_lt _ _ _ h

/-- TICK raises the flags of what falls due in it, and no other. -/
theorem ticked_ifr_bits (s : State) :
    s.ticked.ifr.getLsbD 6 = (s.ifr.getLsbD 6 || timer1Due s) ∧
    s.ticked.ifr.getLsbD 5 = (s.ifr.getLsbD 5 || timer2Due s) ∧
    s.ticked.ifr.getLsbD 2 = (s.ifr.getLsbD 2 || (shiftDue s && s.srCount == 7)) := by
  obtain ⟨timer1, timer2, shift⟩ := onlyIf_bits (timer1Due s) (timer2Due s) (shiftDue s && s.srCount == 7)
  refine ⟨?_, ?_, ?_⟩
  · exact (ticked_ifr_getLsbD s (by decide)).trans (congrArg _ timer1)
  · exact (ticked_ifr_getLsbD s (by decide)).trans (congrArg _ timer2)
  · exact (ticked_ifr_getLsbD s (by decide)).trans (congrArg _ shift)

/-- Settles O30. -/
theorem tickDrivesTimer1 : Obligations.TickDrivesTimer1 := by
  refine ⟨fun rest => decode_encode .tick rest rfl, fun s => ⟨s.ticked, exec_tick s, ?_⟩⟩
  rw [(ticked_ifr_bits s).1, ticked_eq]
  exact ⟨rfl, rfl, rfl, rfl, rfl, rfl⟩

/-- Settles O31. -/
theorem tickDrivesTimer2 : Obligations.TickDrivesTimer2 := by
  refine fun s => ⟨s.ticked, exec_tick s, ?_⟩
  rw [(ticked_ifr_bits s).2.1, ticked_eq]
  exact ⟨rfl, rfl, rfl, rfl⟩

/-- Settles O33. -/
theorem tickFlagsEventsAndFrame : Obligations.TickFlagsEventsAndFrame := by
  refine fun s => ⟨s.ticked, exec_tick s, ?_⟩
  rw [ticked_eq]
  exact ⟨rfl, rfl, rfl, rfl⟩

/-- Settles O34: neither timer moves and the shifter is not clocked. -/
theorem idleTickChangesNothing : Obligations.IdleTickChangesNothing := by
  intro s h1 h2 hshift
  have timer1 (l1 : Nat) : s.begin.tickT1 l1 = s.begin := if_neg (Bool.eq_false_iff.1 h1)
  have timer2 (l2 : Nat) : s.begin.tickT2 l2 = s.begin := if_neg (by simp [h2])
  have shifter : s.begin.tickSr = s.begin := by
    rw [tickSr_eq]
    refine if_neg fun h => ?_
    obtain ⟨hsource, hcount⟩ : shiftSource s = 2 ∧ s.srCount < 8 := h
    omega
  rw [exec_tick, State.ticked, State.tick, timer1, timer2, shifter]
  rfl

/-! ### EDGE PB6 -/

/-- The edge counts: Timer 2 runs in pulse-counting mode. -/
def timer2Pulses (s : State) : Bool := s.acr.getLsbD 5 && s.t2Run

/-- The edge takes Timer 2 below 0 (D17). -/
def pulseDue (s : State) : Bool := timer2Pulses s && s.t2c == 0#16

/-- The state after one falling edge of PB6. -/
def State.pulsed (s : State) : State := s.begin.edgePb6 false

theorem exec_edgePb6Fall (s : State) : exec .edgePb6Fall s = .next s.pulsed := rfl

/-- Timer 2's own fields on a falling edge of PB6 (R138, R140), before the shifter is clocked. -/
def timer2Pulsed (s : State) : State :=
  { s with
    t2c := if timer2Pulses s then s.t2c - 1#16 else s.t2c
    t2Run := s.t2Run && !pulseDue s
    t2Pend := if pulseDue s then 0 else s.t2Pend
    ifr := raised s.ifr s.ier (onlyIf (pulseDue s) 0x20#8)
    events := s.events ++ (if pulseDue s then [.irq (request (s.ifr ||| 0x20#8) s.ier)] else []) }

theorem edgePb6_fall_eq (s : State) :
    s.edgePb6 false = if pulseDue s then (timer2Pulsed s).srTimer2Edge else timer2Pulsed s := by
  have counts : (!false && t2Pulse s.acr && s.t2Run) = timer2Pulses s := rfl
  unfold State.edgePb6 timer2Pulsed
  rw [counts, raised_onlyIf _ _ _ (by decide)]
  cases hcounts : timer2Pulses s
  case false => simp [pulseDue, hcounts]
  case true => by_cases hzero : s.t2c = 0#16 <;> simp [pulseDue, hcounts, hzero, t2Action_eq]

/-- The underflow clocks the shifter: source 1 (R226). -/
def pulseShifts (s : State) : Bool := pulseDue s && shiftSource s == 1 && decide (s.srCount < 8)

theorem pulsed_eq_clocked (s : State) : s.pulsed = (timer2Pulsed s.begin).clocked (pulseShifts s) := by
  have source : shiftSource (timer2Pulsed s.begin) = shiftSource s := rfl
  have count : (timer2Pulsed s.begin).srCount = s.srCount := rfl
  have due : pulseDue s.begin = pulseDue s := rfl
  rw [State.pulsed, edgePb6_fall_eq, srTimer2Edge_eq, State.clocked, source, count, due, pulseShifts]
  cases pulseDue s <;> simp

/-- The flags are recomputed when the underflow sets `ifr[5]`, and again, to the same effect, when its shift is the
eighth. -/
theorem pulsed_flags (s : State) :
    raised (raised s.ifr s.ier (onlyIf (pulseDue s) 0x20#8)) s.ier (onlyIf (pulseShifts s && s.srCount == 7) 0x04#8) =
      if pulseDue s then
        combine (s.ifr ||| onlyIf (pulseDue s) 0x20#8 ||| onlyIf (pulseShifts s && s.srCount == 7) 0x04#8) s.ier
      else s.ifr := by
  rw [raised_raised, BitVec.or_assoc]
  cases hdue : pulseDue s
  case false => simp [raised, pulseShifts, hdue, onlyIf]
  case true =>
    have nonzero (c : Bool) : onlyIf true 0x20#8 ||| onlyIf c 0x04#8 ≠ 0#8 := by cases c <;> decide
    exact if_neg (nonzero _)

theorem pulsed_shiftEvents (s : State) :
    (if pulseShifts s then shiftEvents s (raised s.ifr s.ier (onlyIf (pulseDue s) 0x20#8)) else []) =
      if pulseShifts s then shiftEvents s (s.ifr ||| 0x20#8) else [] := by
  rw [shiftEvents_raised]
  cases hdue : pulseDue s
  case false => simp [pulseShifts, hdue]
  case true => rfl

/-- R140: one falling edge of PB6, field by field. -/
theorem pulsed_eq (s : State) :
    s.pulsed = { s with
      t2c := if timer2Pulses s then s.t2c - 1#16 else s.t2c
      t2Run := s.t2Run && !pulseDue s
      t2Pend := if pulseDue s then 0 else s.t2Pend
      ifr := if pulseDue s then
          combine (s.ifr ||| onlyIf (pulseDue s) 0x20#8 ||| onlyIf (pulseShifts s && s.srCount == 7) 0x04#8) s.ier
        else s.ifr
      sr := if pulseShifts s then shifted s else s.sr
      cb2 := if pulseShifts s && s.acr.getLsbD 4 then s.sr.getLsbD 7 else s.cb2
      srCount := if pulseShifts s then s.srCount + 1 else s.srCount
      events := (if pulseDue s then [.irq (request (s.ifr ||| 0x20#8) s.ier)] else []) ++
        (if pulseShifts s then shiftEvents s (s.ifr ||| 0x20#8) else [])
      result := .none } := by
  rw [pulsed_eq_clocked, clocked_eq, ← pulsed_flags, ← pulsed_shiftEvents]
  rfl

/-- Settles O29. -/
theorem edgeOnPb6CountsAPulse : Obligations.EdgeOnPb6CountsAPulse :=
  ⟨fun rest => decode_encode .edgePb6Fall rest rfl, fun rest => decode_encode .edgePb6Rise rest rfl,
    fun _ => rfl, fun s => (exec_edgePb6Fall s).trans (congrArg _ (pulsed_eq s))⟩

end Sys2Proof.Machine
end

section
/-! The timers along a run (40_timers.md R141): a countdown that stops at its underflow action, read off Timer 1, off
Timer 2 in timed mode and, with latency 1, off Timer 2 in pulse-counting mode; and what a run makes of it. -/

namespace Sys2Proof.Machine

open Sys2Proof.Safety

/-! ### A countdown, and where it stands after `n` ticks -/

/-- A counter, the cycles left before an underflow action that is due, and whether it runs. -/
@[ext]
structure Countdown where
  c : Half
  pend : Nat
  run : Bool

/-- The underflow action falls in the next tick, for latency `l`. -/
def Countdown.due (l : Nat) (x : Countdown) : Bool := x.run && (x.pend == 1 || (x.pend == 0 && x.c == 0#16 && l == 1))

/-- One tick (R132, R137); the underflow action stops the countdown. -/
def Countdown.tick (l : Nat) (x : Countdown) : Countdown where
  c := if x.run then x.c - 1#16 else x.c
  pend := if x.run = false then x.pend else if 0 < x.pend then x.pend - 1 else if x.c = 0#16 then l - 1 else 0
  run := x.run && !x.due l

/-- R141: `n` ticks after a load of `c`, for latency `l`. The counter passes 0 after tick `c`, the action falls in tick
`c + l`, and nothing moves after it. -/
def Countdown.after (c : Half) (l n : Nat) : Countdown where
  c := c - BitVec.ofNat 16 (min n (c.toNat + l))
  pend := if n ≤ c.toNat then 0 else c.toNat + l - n
  run := decide (n < c.toNat + l)

theorem sub_ofNat_sub_one (c : Half) (n : Nat) : c - BitVec.ofNat 16 n - 1#16 = c - BitVec.ofNat 16 (n + 1) := by
  rw [BitVec.sub_sub, BitVec.ofNat_add]

theorem sub_ofNat_eq_zero_iff (c : Half) {n : Nat} (h : n ≤ c.toNat) :
    c - BitVec.ofNat 16 n = 0#16 ↔ n = c.toNat := by
  have := c.isLt
  constructor
  · intro hzero
    have := congrArg BitVec.toNat hzero
    simp only [BitVec.toNat_sub, BitVec.toNat_ofNat] at this
    omega
  · rintro rfl
    simp

/-- At its underflow action the counter stands one latency below 0. -/
theorem sub_ofNat_toNat_add (c : Half) (l : Nat) : c - BitVec.ofNat 16 (c.toNat + l) = 0#16 - BitVec.ofNat 16 l := by
  rw [BitVec.ofNat_add, BitVec.ofNat_toNat, BitVec.setWidth_eq, ← BitVec.sub_sub, BitVec.sub_self]

section
variable {c : Half} {l n : Nat}

theorem Countdown.after_of_lt (h : n < c.toNat + l) :
    Countdown.after c l n = ⟨c - BitVec.ofNat 16 n, if n ≤ c.toNat then 0 else c.toNat + l - n, true⟩ := by
  unfold Countdown.after
  rw [min_eq_left h.le, decide_eq_true h]

theorem Countdown.after_of_le (h : c.toNat + l ≤ n) :
    Countdown.after c l n = ⟨0#16 - BitVec.ofNat 16 l, 0, false⟩ := by
  unfold Countdown.after
  rw [min_eq_right h, sub_ofNat_toNat_add, Nat.sub_eq_zero_of_le h, ite_self, decide_eq_false (Nat.not_lt.2 h)]

theorem Countdown.after_zero (hl : 1 ≤ l) : Countdown.after c l 0 = ⟨c, 0, true⟩ := by
  rw [Countdown.after_of_lt (by omega), if_pos (Nat.zero_le _), BitVec.sub_zero]

theorem Countdown.due_after (hl : 1 ≤ l) : (Countdown.after c l n).due l = decide (n + 1 = c.toNat + l) := by
  rw [Bool.eq_iff_iff, decide_eq_true_eq]
  by_cases hrun : n < c.toNat + l
  case neg =>
    rw [Countdown.after_of_le (Nat.not_lt.1 hrun)]
    simp only [Countdown.due, Bool.false_and, Bool.false_eq_true, false_iff]
    omega
  rw [Countdown.after_of_lt hrun]
  simp only [Countdown.due, Bool.true_and, Bool.or_eq_true, Bool.and_eq_true, beq_iff_eq]
  by_cases hn : n ≤ c.toNat
  · rw [if_pos hn, sub_ofNat_eq_zero_iff c hn]
    omega
  · rw [if_neg hn]
    omega

/-- The cycles of the latency, counted down from the zero cycle. -/
theorem Countdown.pend_after_succ (h : n < c.toNat + l) :
    (if 0 < (Countdown.after c l n).pend then (Countdown.after c l n).pend - 1
      else if (Countdown.after c l n).c = 0#16 then l - 1 else 0) = (Countdown.after c l (n + 1)).pend := by
  have next : (Countdown.after c l (n + 1)).pend = if n + 1 ≤ c.toNat then 0 else c.toNat + l - (n + 1) := rfl
  rw [next, Countdown.after_of_lt h]
  by_cases hn : n ≤ c.toNat
  · simp only [if_pos hn, sub_ofNat_eq_zero_iff c hn]
    split_ifs <;> omega
  · simp only [if_neg hn]
    split_ifs <;> omega

theorem Countdown.tick_after (hl : 1 ≤ l) : (Countdown.after c l n).tick l = Countdown.after c l (n + 1) := by
  by_cases hrun : n < c.toNat + l
  case neg =>
    have hstopped : c.toNat + l ≤ n := Nat.not_lt.1 hrun
    rw [Countdown.after_of_le hstopped, Countdown.after_of_le (Nat.le_succ_of_le hstopped)]
    rfl
  have running : (Countdown.after c l n).run = true := decide_eq_true hrun
  have counter : (Countdown.after c l n).c - 1#16 = (Countdown.after c l (n + 1)).c := by
    rw [Countdown.after_of_lt hrun, sub_ofNat_sub_one, Countdown.after, min_eq_left (Nat.succ_le_of_lt hrun)]
  have runs : (!decide (n + 1 = c.toNat + l)) = (Countdown.after c l (n + 1)).run := by
    rw [← decide_not]
    exact decide_eq_decide.2 (by omega)
  simp only [Countdown.tick, Countdown.due_after hl, running, if_true, Bool.true_eq_false, if_false, Bool.true_and,
    counter, runs, Countdown.pend_after_succ hrun]

end

/-! ### The timers as countdowns -/

def State.countdown1 (s : State) : Countdown := ⟨s.t1c, s.t1Pend, s.t1Run⟩

def State.countdown2 (s : State) : Countdown := ⟨s.t2c, s.t2Pend, s.t2Run⟩

/-- Pulses are counted with no latency, so nothing is ever pending (D17). -/
def State.pulseCountdown (s : State) : Countdown := ⟨s.t2c, 0, s.t2Run⟩

theorem timer1Due_eq (s : State) : timer1Due s = s.countdown1.due Config.t1Latency := rfl

theorem timer2Counts_eq {s : State} (h : s.acr.getLsbD 5 = false) : timer2Counts s = s.t2Run := by
  rw [timer2Counts, h]
  exact Bool.and_true _

theorem timer2Due_eq {s : State} (h : s.acr.getLsbD 5 = false) :
    timer2Due s = s.countdown2.due Config.t2Latency := by
  rw [timer2Due, timer2Counts_eq h]
  rfl

theorem pulseDue_eq {s : State} (h : s.acr.getLsbD 5 = true) : pulseDue s = s.pulseCountdown.due 1 := by
  rw [pulseDue, timer2Pulses, h]
  simp [Countdown.due, State.pulseCountdown]

/-- R134: in continuous mode the underflow action reloads the counter and the timer runs on. -/
theorem ticked_countdown1_of_reload {s : State} (hdue : timer1Due s = true) (hmode : s.acr.getLsbD 6 = true) :
    s.ticked.countdown1 = ⟨s.t1lh ++ s.t1ll, 0, true⟩ := by
  have hpend := pend_of_t1Due (l1 := Config.t1Latency) hdue
  simp [ticked_eq, State.countdown1, hdue, hmode, t1Due_run hdue, hpend]

theorem ticked_countdown1 {s : State} (h : (timer1Due s && s.acr.getLsbD 6) = false) :
    s.ticked.countdown1 = s.countdown1.tick Config.t1Latency := by
  have stops : (timer1Due s && !s.acr.getLsbD 6) = timer1Due s := by
    revert h
    cases timer1Due s <;> cases s.acr.getLsbD 6 <;> decide
  rw [ticked_eq]
  simp only [h, stops]
  rfl

theorem ticked_countdown2 {s : State} (h : s.acr.getLsbD 5 = false) :
    s.ticked.countdown2 = s.countdown2.tick Config.t2Latency := by
  rw [ticked_eq, timer2Counts_eq h, timer2Due_eq h]
  rfl

theorem pulsed_pulseCountdown {s : State} (h : s.acr.getLsbD 5 = true) :
    s.pulsed.pulseCountdown = s.pulseCountdown.tick 1 := by
  have counts : timer2Pulses s = s.t2Run := by rw [timer2Pulses, h, Bool.true_and]
  have pend : (s.pulseCountdown.tick 1).pend = 0 := by simp [State.pulseCountdown, Countdown.tick]
  rw [pulsed_eq, counts, pulseDue_eq h]
  exact Countdown.ext rfl pend.symm rfl

/-! ### Runs of one operation -/

theorem perform_replicate {i : Instr} {f : State → State} (hexec : ∀ s, exec i s = .next (f s)) (n : Nat)
    (s : State) : perform (List.replicate n i) s = .next (f^[n] s) := by
  induction n generalizing s with
  | zero => rfl
  | succ n ih =>
    rw [List.replicate_succ, perform, hexec]
    exact ih (f s)

theorem afterTicks_eq (n : Nat) (s : State) : afterTicks n s = .next (State.ticked^[n] s) :=
  perform_replicate exec_tick n s

theorem afterPulses_eq (n : Nat) (s : State) : afterPulses n s = .next (State.pulsed^[n] s) :=
  perform_replicate exec_edgePb6Fall n s

/-- What holds at first and is carried by one step from each count to the next holds after every number of steps. -/
theorem iterate_invariant {P : Nat → State → Prop} {f : State → State} {s : State} (start : P 0 s)
    (step : ∀ n t, P n t → P (n + 1) (f t)) (n : Nat) : P n (f^[n] s) := by
  induction n with
  | zero => exact start
  | succ n ih => rw [Function.iterate_succ_apply']; exact step n _ ih

/-- R173: a cleared source stands at 0. -/
theorem ifrClear_getLsbD_source (s : State) (k : Source) :
    (s.ifrClear (sourceMask k)).ifr.getLsbD (sourceBit k) = false := by
  have hlt : sourceBit k < 7 := by cases k <;> decide
  have cleared : (~~~(sourceMask k &&& 0x7F#8)).getLsbD (sourceBit k) = false := by cases k <;> decide
  rw [ifrClear_eq, combine_getLsbD_of_lt _ _ hlt, BitVec.getLsbD_and, cleared, Bool.and_false]

theorem ticked_acr (s : State) : s.ticked.acr = s.acr := by rw [ticked_eq]

theorem pulsed_acr (s : State) : s.pulsed.acr = s.acr := by rw [pulsed_eq]

/-! ### Timer 1 in one-shot mode -/

/-- `n` TICKs after a one-shot load of `c`: the flag and `t1_fired` say that the timer has stopped. -/
structure OneShot (c : Half) (n : Nat) (t : State) : Prop where
  mode : t.acr.getLsbD 6 = false
  countdown : t.countdown1 = Countdown.after c Config.t1Latency n
  flag : t.ifr.getLsbD 6 = !t.t1Run
  fired : t.t1Fired = !t.t1Run

theorem oneShot_ticked {c : Half} {n : Nat} {t : State} (h : OneShot c n t) : OneShot c (n + 1) t.ticked where
  mode := ticked_acr t ▸ h.mode
  countdown := by
    rw [ticked_countdown1 (by rw [h.mode, Bool.and_false]), h.countdown, Countdown.tick_after Config.t1Latency_pos]
  flag := by
    rw [(ticked_ifr_bits t).1, h.flag, ticked_eq, h.mode]
    simp
  fired := by
    rw [ticked_eq, h.mode, h.fired]
    simp

theorem oneShot_loaded {v : Byte} {s loaded : State} (h : exec (.stT1ch v) s = .next loaded)
    (hmode : s.acr.getLsbD 6 = false) : OneShot (v ++ s.t1ll) 0 loaded := by
  cases h
  exact {
    mode := hmode
    countdown := (Countdown.after_zero Config.t1Latency_pos).symm
    flag := ifrClear_getLsbD_source _ .t1
    fired := rfl }

/-- Settles O36. -/
theorem timer1OneShotFiresOnceAfterItsLatency : Obligations.Timer1OneShotFiresOnceAfterItsLatency := by
  intro v s loaded h hmode n
  obtain ⟨-, countdown, flag, fired⟩ :=
    iterate_invariant (oneShot_loaded h hmode) (fun _ _ => oneShot_ticked) n
  refine ⟨_, afterTicks_eq n loaded, fun hn => ?_, fun hn => ?_⟩
  · rw [Countdown.after_of_lt hn] at countdown
    obtain ⟨hc, -, hrun⟩ := Countdown.mk.inj countdown
    exact ⟨flag.trans (congrArg not hrun), hrun, fired.trans (congrArg not hrun), hc⟩
  · rw [Countdown.after_of_le hn] at countdown
    obtain ⟨hc, hpend, hrun⟩ := Countdown.mk.inj countdown
    exact ⟨flag.trans (congrArg not hrun), hrun, fired.trans (congrArg not hrun), hpend, hc⟩

/-! ### Timer 1 in continuous mode -/

/-- `n` TICKs after the underflow action number `k` of a continuous run that began in `s` with the latch at `c`. -/
structure Continuous (s : State) (c : Half) (k n : Nat) (t : State) : Prop where
  acr : t.acr = s.acr
  latch : t.t1lh ++ t.t1ll = c
  countdown : t.countdown1 = Countdown.after c Config.t1Latency n
  flag : t.ifr.getLsbD 6 = decide (0 < k)
  out : t.t1Out = (s.t1Out ^^ (s.acr.getLsbD 7 && k % 2 == 1))

theorem ticked_latch1 (s : State) : s.ticked.t1lh ++ s.ticked.t1ll = s.t1lh ++ s.t1ll := by rw [ticked_eq]

theorem ticked_t1Out (s : State) :
    s.ticked.t1Out = (s.t1Out ^^ (s.acr.getLsbD 7 && (timer1Due s && s.acr.getLsbD 6))) := by
  rw [Bool.and_comm (s.acr.getLsbD 7), ticked_eq]
  cases timer1Due s && s.acr.getLsbD 6 && s.acr.getLsbD 7 <;> simp

theorem Continuous.due {s t : State} {c : Half} {k n : Nat} (h : Continuous s c k n t) :
    timer1Due t = decide (n + 1 = c.toNat + Config.t1Latency) := by
  rw [timer1Due_eq, h.countdown, Countdown.due_after Config.t1Latency_pos]

/-- Between two underflow actions. -/
theorem continuous_ticked {s t : State} {c : Half} {k n : Nat} (h : Continuous s c k n t)
    (hn : n + 1 < c.toNat + Config.t1Latency) : Continuous s c k (n + 1) t.ticked := by
  have hdue : timer1Due t = false := h.due.trans (decide_eq_false hn.ne)
  exact {
    acr := (ticked_acr t).trans h.acr
    latch := (ticked_latch1 t).trans h.latch
    countdown := by
      rw [ticked_countdown1 (by rw [hdue, Bool.false_and]), h.countdown, Countdown.tick_after Config.t1Latency_pos]
    flag := by rw [(ticked_ifr_bits t).1, hdue, Bool.or_false, h.flag]
    out := by rw [ticked_t1Out, hdue, Bool.false_and, Bool.and_false, Bool.xor_false, h.out] }

/-- The underflow action itself. -/
theorem continuous_ticked_of_due {s t : State} {c : Half} {k n : Nat} (hmode : s.acr.getLsbD 6 = true)
    (h : Continuous s c k n t) (hn : n + 1 = c.toNat + Config.t1Latency) : Continuous s c (k + 1) 0 t.ticked := by
  have hdue : timer1Due t = true := h.due.trans (decide_eq_true hn)
  have hcont : t.acr.getLsbD 6 = true := h.acr ▸ hmode
  exact {
    acr := (ticked_acr t).trans h.acr
    latch := (ticked_latch1 t).trans h.latch
    countdown := by
      rw [ticked_countdown1_of_reload hdue hcont, h.latch, Countdown.after_zero Config.t1Latency_pos]
    flag := by rw [(ticked_ifr_bits t).1, hdue, Bool.or_true, decide_eq_true k.succ_pos]
    out := by
      have parity : ((k + 1) % 2 == 1) = !(k % 2 == 1) := by
        obtain hk | hk := Nat.mod_two_eq_zero_or_one k <;> simp [Nat.add_mod, hk]
      rw [ticked_t1Out, hdue, hcont, h.acr, h.out, parity]
      cases s.acr.getLsbD 7 <;> simp }

theorem continuous_loaded {v : Byte} {s loaded : State} (h : exec (.stT1ch v) s = .next loaded) :
    Continuous s (v ++ s.t1ll) 0 0 loaded := by
  cases h
  exact {
    acr := rfl
    latch := rfl
    countdown := (Countdown.after_zero Config.t1Latency_pos).symm
    flag := ifrClear_getLsbD_source _ .t1
    out := by simp [State.ifrClear, State.irqUpdate] }

/-- By the period: `n` within it, then `k` from each to the next. -/
theorem continuous_iterate {s loaded : State} {c : Half} (hmode : s.acr.getLsbD 6 = true)
    (start : Continuous s c 0 0 loaded) (k n : Nat) (hn : n < c.toNat + Config.t1Latency) :
    Continuous s c k n (State.ticked^[k * (c.toNat + Config.t1Latency) + n] loaded) := by
  induction k generalizing n with
  | zero =>
    induction n with
    | zero => simpa using start
    | succ n ih =>
      rw [← Nat.add_assoc, Function.iterate_succ_apply']
      exact continuous_ticked (ih (Nat.lt_of_succ_lt hn)) hn
  | succ k period =>
    induction n with
    | zero =>
      obtain ⟨last, hlast⟩ : ∃ last, last + 1 = c.toNat + Config.t1Latency := ⟨_, Nat.sub_add_cancel hn⟩
      have ticks : (k + 1) * (c.toNat + Config.t1Latency) + 0 = k * (c.toNat + Config.t1Latency) + last + 1 := by
        rw [Nat.succ_mul, Nat.add_zero, Nat.add_assoc, hlast]
      rw [ticks, Function.iterate_succ_apply']
      exact continuous_ticked_of_due hmode (period last (hlast ▸ Nat.lt_succ_self last)) hlast
    | succ n ih =>
      rw [← Nat.add_assoc, Function.iterate_succ_apply']
      exact continuous_ticked (ih (Nat.lt_of_succ_lt hn)) hn

/-- Settles O37. -/
theorem timer1ContinuousPeriodIsLatchPlusLatency : Obligations.Timer1ContinuousPeriodIsLatchPlusLatency := by
  intro v s loaded h hmode k n hn
  obtain ⟨-, -, countdown, flag, out⟩ := continuous_iterate hmode (continuous_loaded h) k n hn
  rw [Countdown.after_of_lt hn] at countdown
  obtain ⟨hc, -, hrun⟩ := Countdown.mk.inj countdown
  exact ⟨_, afterTicks_eq _ loaded, hc, hrun, flag, out⟩

/-! ### Timer 2 in timed mode -/

/-- `n` TICKs after a load of `c` in timed mode. -/
structure Timed (c : Half) (n : Nat) (t : State) : Prop where
  mode : t.acr.getLsbD 5 = false
  countdown : t.countdown2 = Countdown.after c Config.t2Latency n
  flag : t.ifr.getLsbD 5 = !t.t2Run

theorem timed_ticked {c : Half} {n : Nat} {t : State} (h : Timed c n t) : Timed c (n + 1) t.ticked where
  mode := ticked_acr t ▸ h.mode
  countdown := by
    rw [ticked_countdown2 h.mode, h.countdown, Countdown.tick_after Config.t2Latency_pos]
  flag := by
    rw [(ticked_ifr_bits t).2.1, h.flag, ticked_eq]
    simp

theorem timed_loaded {v : Byte} {s loaded : State} (h : exec (.stT2ch v) s = .next loaded)
    (hmode : s.acr.getLsbD 5 = false) : Timed (v ++ s.t2ll) 0 loaded := by
  cases h
  exact {
    mode := hmode
    countdown := (Countdown.after_zero Config.t2Latency_pos).symm
    flag := ifrClear_getLsbD_source _ .t2 }

/-- Settles O38. -/
theorem timer2TimedFiresOnceAfterItsLatency : Obligations.Timer2TimedFiresOnceAfterItsLatency := by
  intro v s loaded h hmode n
  obtain ⟨-, countdown, flag⟩ := iterate_invariant (timed_loaded h hmode) (fun _ _ => timed_ticked) n
  refine ⟨_, afterTicks_eq n loaded, fun hn => ?_, fun hn => ?_⟩
  · rw [Countdown.after_of_lt hn] at countdown
    obtain ⟨hc, -, hrun⟩ := Countdown.mk.inj countdown
    exact ⟨flag.trans (congrArg not hrun), hrun, hc⟩
  · rw [Countdown.after_of_le hn] at countdown
    obtain ⟨hc, hpend, hrun⟩ := Countdown.mk.inj countdown
    exact ⟨flag.trans (congrArg not hrun), hrun, hpend, hc⟩

/-! ### Timer 2 in pulse-counting mode -/

/-- `n` falling edges of PB6 after a load of `c` in pulse-counting mode. -/
structure Pulsing (c : Half) (n : Nat) (t : State) : Prop where
  mode : t.acr.getLsbD 5 = true
  countdown : t.pulseCountdown = Countdown.after c 1 n
  flag : t.ifr.getLsbD 5 = !t.t2Run

theorem pulsed_ifr_getLsbD_five (s : State) : s.pulsed.ifr.getLsbD 5 = (s.ifr.getLsbD 5 || pulseDue s) := by
  have timer2 (a b : Bool) : (onlyIf a 0x20#8 ||| onlyIf b 0x04#8).getLsbD 5 = a := by
    revert a b
    decide
  rw [pulsed_eq, ← pulsed_flags, raised_raised, raised_getLsbD_of_lt _ _ _ (by decide), timer2]

theorem pulsing_pulsed {c : Half} {n : Nat} {t : State} (h : Pulsing c n t) : Pulsing c (n + 1) t.pulsed where
  mode := pulsed_acr t ▸ h.mode
  countdown := by rw [pulsed_pulseCountdown h.mode, h.countdown, Countdown.tick_after le_rfl]
  flag := by
    rw [pulsed_ifr_getLsbD_five, h.flag, pulsed_eq]
    simp

theorem pulsing_loaded {v : Byte} {s loaded : State} (h : exec (.stT2ch v) s = .next loaded)
    (hmode : s.acr.getLsbD 5 = true) : Pulsing (v ++ s.t2ll) 0 loaded := by
  cases h
  exact {
    mode := hmode
    countdown := (Countdown.after_zero le_rfl).symm
    flag := ifrClear_getLsbD_source _ .t2 }

/-- Settles O39. -/
theorem timer2PulseModeFiresOnEdgeNPlusOne : Obligations.Timer2PulseModeFiresOnEdgeNPlusOne := by
  intro v s loaded h hmode n
  obtain ⟨-, countdown, flag⟩ := iterate_invariant (pulsing_loaded h hmode) (fun _ _ => pulsing_pulsed) n
  refine ⟨_, afterPulses_eq n loaded, fun hn => ?_, fun hn => ?_⟩
  · rw [Countdown.after_of_lt (Nat.lt_succ_of_le hn)] at countdown
    obtain ⟨hc, -, hrun⟩ := Countdown.mk.inj countdown
    exact ⟨flag.trans (congrArg not hrun), hrun, hc⟩
  · rw [Countdown.after_of_le hn] at countdown
    obtain ⟨hc, -, hrun⟩ := Countdown.mk.inj countdown
    exact ⟨flag.trans (congrArg not hrun), hrun, hc⟩

end Sys2Proof.Machine
end

section
/-! What moves the timers (40_timers.md R135, R139): which procedures leave both alone, and which one of them. -/

namespace Sys2Proof.Machine

open Sys2Proof.Safety

/-- The fields of Timer 1 that only its own load, TICK and the control operations move. -/
structure Timer1 where
  run : Bool
  fired : Bool
  pend : Nat
  c : Half

/-- The same for Timer 2. -/
structure Timer2 where
  run : Bool
  pend : Nat
  c : Half

structure Timers where
  timer1 : Timer1
  timer2 : Timer2

def State.timers (s : State) : Timers :=
  ⟨⟨s.t1Run, s.t1Fired, s.t1Pend, s.t1c⟩, ⟨s.t2Run, s.t2Pend, s.t2c⟩⟩

/-! ### Procedures that leave both timers alone -/

theorem timers_ite {c : Prop} [Decidable c] {x y s : State} (hx : x.timers = s.timers) (hy : y.timers = s.timers) :
    (if c then x else y).timers = s.timers := by
  split
  · exact hx
  · exact hy

theorem loadInputLatchA_timers (s : State) : s.loadInputLatchA.timers = s.timers := timers_ite rfl rfl

theorem loadInputLatchB_timers (s : State) : s.loadInputLatchB.timers = s.timers := timers_ite rfl rfl

theorem rederiveA_timers (old new : Byte) (s : State) : (s.rederiveA old new).timers = s.timers :=
  timers_ite rfl rfl

theorem rederiveB_timers (old new : Byte) (s : State) : (s.rederiveB old new).timers = s.timers :=
  timers_ite rfl rfl

theorem acrShiftChange_timers (old new : Byte) (s : State) : (s.acrShiftChange old new).timers = s.timers :=
  timers_ite rfl rfl

theorem edgeCa1_timers (level : Bool) (s : State) : (s.edgeCa1 level).timers = s.timers :=
  timers_ite rfl rfl

theorem edgeCa2_timers (level : Bool) (s : State) : (s.edgeCa2 level).timers = s.timers :=
  timers_ite rfl rfl

theorem edgeCb2_timers (level : Bool) (s : State) : (s.edgeCb2 level).timers = s.timers :=
  timers_ite rfl rfl

theorem srExtEdge_timers (s : State) (level : Bool) : (s.srExtEdge level).timers = s.timers := by
  rw [srExtEdge_eq]
  exact timers_ite rfl rfl

theorem edgeCb1_timers (level : Bool) (s : State) : (s.edgeCb1 level).timers = s.timers :=
  timers_ite (srExtEdge_timers _ level) (srExtEdge_timers _ level)

/-! ### Procedures that leave Timer 1 alone -/

/-- R251: a change of `acr[5]` cancels a pending Timer 2 action. -/
theorem acrTimer2Change_timer1 (old new : Byte) (s : State) :
    (s.acrTimer2Change old new).timers.timer1 = s.timers.timer1 := by
  unfold State.acrTimer2Change
  split <;> rfl

theorem pulsed_timer1 (s : State) : s.pulsed.timers.timer1 = s.timers.timer1 := by
  rw [pulsed_eq]
  rfl

/-! ### Every operation -/

theorem exec_timers {i : Instr} {s t : State} (h : exec i s = .next t)
    (hi : commandIn i [0x05#8, 0x09#8, 0x0B#8, 0xC0#8, 0xC1#8, 0xC2#8, 0xC4#8, 0xD8#8] = false) :
    t.timers = s.timers := by
  cases i with
  | stT1ch v | stT2ch v | stAcr v | tick | reset | init | snapr b | edgePb6Fall => cases hi
  | stPcr v => cases h; exact (rederiveB_timers _ _ _).trans (rederiveA_timers _ _ _)
  | rdOrb => cases h; exact loadInputLatchB_timers (s.begin.returnByte s.portBValue)
  | rdOra => cases h; exact loadInputLatchA_timers (s.begin.returnByte s.portAValue)
  | rdOrax => cases h; exact loadInputLatchA_timers _
  | edgeCa1Fall | edgeCa1Rise => cases h; exact edgeCa1_timers _ _
  | edgeCa2Fall | edgeCa2Rise => cases h; exact edgeCa2_timers _ _
  | edgeCb1Fall | edgeCb1Rise => cases h; exact edgeCb1_timers _ _
  | edgeCb2Fall | edgeCb2Rise => cases h; exact edgeCb2_timers _ _
  | _ => cases h; rfl

/-- R135: of the operations that move a timer, these move Timer 2 alone. -/
theorem exec_timer1 {i : Instr} {s t : State} (h : exec i s = .next t)
    (hi : commandIn i [0x05#8, 0xC0#8, 0xC1#8, 0xC2#8, 0xC4#8] = false) : t.timers.timer1 = s.timers.timer1 := by
  cases i with
  | stT1ch v | tick | reset | init | snapr b => cases hi
  | stT2ch v => cases h; rfl
  | stAcr v =>
    cases h
    exact (acrTimer2Change_timer1 _ _ _).trans (congrArg Timers.timer1 (acrShiftChange_timers _ _ _))
  | edgePb6Fall => cases h; exact pulsed_timer1 s
  | _ => exact congrArg Timers.timer1 (exec_timers h rfl)

/-- R139: a load of Timer 1 leaves Timer 2 alone. -/
theorem exec_timer2 {i : Instr} {s t : State} (h : exec i s = .next t)
    (hi : commandIn i [0x09#8, 0x0B#8, 0xC0#8, 0xC1#8, 0xC2#8, 0xC4#8, 0xD8#8] = false) :
    t.timers.timer2 = s.timers.timer2 := by
  cases i with
  | stT2ch v | stAcr v | tick | reset | init | snapr b | edgePb6Fall => cases hi
  | stT1ch v => cases h; rfl
  | _ => exact congrArg Timers.timer2 (exec_timers h rfl)

/-- Settles O55. -/
theorem onlyTheNamedOperationsMoveTheTimers : Obligations.OnlyTheNamedOperationsMoveTheTimers := by
  intro i s t h
  refine ⟨fun hi => ?_, fun hi => ?_⟩
  · exact Timer1.mk.inj (exec_timer1 h hi)
  · exact Timer2.mk.inj (exec_timer2 h hi)

end Sys2Proof.Machine
end

section
/-! The EDGE operations on the handshake pairs as equations of whole states (42_handshake.md R192 to R195, 43_shift.md
R222, R227), and the secondary lines: what a port access reports of each, and that in HANDSHAKE mode nothing else moves
CA2 (R198 to R200). -/

namespace Sys2Proof.Machine

open Sys2Proof.Safety

/-! ### EDGE CA1, CA2 and CB2 -/

theorem or_onlyIf (ifr mask : Byte) (c : Bool) : ifr ||| onlyIf c mask = if c then ifr ||| mask else ifr := by
  cases c
  · exact BitVec.or_zero
  · rfl

/-- R192: both edges in one equation. -/
theorem edgeCa1_eq_onlyIf (level : Bool) (s : State) :
    s.edgeCa1 level = { s with
      ifr := combine (s.ifr ||| onlyIf (level == s.pcr.getLsbD 0) 0x02#8) s.ier
      ila := if level = s.pcr.getLsbD 0 ∧ s.acr.getLsbD 0 = true then s.paIn else s.ila
      events := s.events ++ [.irq (request (s.ifr ||| onlyIf (level == s.pcr.getLsbD 0) 0x02#8) s.ier)] } := by
  rw [edgeCa1_eq, or_onlyIf]
  by_cases hactive : level = s.pcr.getLsbD 0
  · simp only [hactive, beq_self_eq_true, if_true, true_and]
  · simp only [hactive, beq_iff_eq, if_false, false_and]

theorem exec_edgeCa1 (level : Bool) (s : State) :
    exec (if level then .edgeCa1Rise else .edgeCa1Fall) s = .next (s.begin.edgeCa1 level) := by
  cases level <;> rfl

/-- Settles O25. -/
theorem edgeOnCa1SetsTheFlagAndLatchesPortA : Obligations.EdgeOnCa1SetsTheFlagAndLatchesPortA := by
  refine ⟨fun rest => decode_encode .edgeCa1Fall rest rfl, fun rest => decode_encode .edgeCa1Rise rest rfl,
    fun level s => ?_⟩
  rw [exec_edgeCa1, edgeCa1_eq_onlyIf]
  rfl

theorem exec_edgeCa2 (level : Bool) (s : State) :
    exec (if level then .edgeCa2Rise else .edgeCa2Fall) s = .next (s.begin.edgeCa2 level) := by
  cases level <;> rfl

/-- Settles O26: by the direction of the line. -/
theorem edgeOnCa2SetsLevelAndFlag : Obligations.EdgeOnCa2SetsLevelAndFlag := by
  refine ⟨fun rest => decode_encode .edgeCa2Fall rest rfl, fun rest => decode_encode .edgeCa2Rise rest rfl,
    fun level s => ?_⟩
  rw [exec_edgeCa2, edgeCa2_eq, or_onlyIf, apply_ite Host.Outcome.next]
  simp only [beq_iff_eq]
  rfl

theorem exec_edgeCb2 (level : Bool) (s : State) :
    exec (if level then .edgeCb2Rise else .edgeCb2Fall) s = .next (s.begin.edgeCb2 level) := by
  cases level <;> rfl

/-- Settles O28: by the direction of the line. -/
theorem edgeOnCb2SetsLevelAndFlag : Obligations.EdgeOnCb2SetsLevelAndFlag := by
  refine ⟨fun rest => decode_encode .edgeCb2Fall rest rfl, fun rest => decode_encode .edgeCb2Rise rest rfl,
    fun level s => ?_⟩
  rw [exec_edgeCb2, edgeCb2_eq, or_onlyIf, apply_ite Host.Outcome.next]
  simp only [beq_iff_eq]
  rfl

/-! ### EDGE CB1 -/

/-- The edge is the active one of CB1 (R35, R194). -/
def cb1Active (level : Bool) (s : State) : Bool := level == s.pcr.getLsbD 4

/-- The edge clocks the shifter: source 3, not halted, rising to shift in and falling to shift out (R227). -/
def cb1Clocks (level : Bool) (s : State) : Bool :=
  shiftSource s == 3 && decide (s.srCount < 8) && (level != s.acr.getLsbD 4)

/-- The flags of the edge itself, before bit 7 and before the shifter. -/
def cb1Flags (level : Bool) (s : State) : Byte := s.ifr ||| onlyIf (cb1Active level s) 0x10#8

/-- What the edge does to the flag and the latch, before the shifter is clocked (R194). -/
def cb1Notified (level : Bool) (s : State) : State :=
  { s with
    ifr := combine (cb1Flags level s) s.ier
    ilb := if cb1Active level s && s.acr.getLsbD 1 then s.pbIn else s.ilb
    events := s.events ++ [.irq (request (cb1Flags level s) s.ier)] }

theorem srExtEdge_eq_clocked (s : State) (level : Bool) : s.srExtEdge level = s.clocked (cb1Clocks level s) := by
  have clocks : cb1Clocks level s = true ↔ shiftSource s = 3 ∧ s.srCount < 8 ∧ level = !s.acr.getLsbD 4 := by
    simp only [cb1Clocks, Bool.and_eq_true, beq_iff_eq, decide_eq_true_eq, and_assoc, bne_iff_ne, Bool.eq_not]
  rw [srExtEdge_eq, State.clocked]
  simp only [clocks]

/-- The flag and the shift clock are independent uses of the edge. -/
theorem edgeCb1_eq_clocked (level : Bool) (s : State) :
    s.edgeCb1 level = (cb1Notified level s).clocked (cb1Clocks level s) := by
  have notified : s.edgeCb1 level = (cb1Notified level s).srExtEdge level := by
    rw [edgeCb1_eq, cb1Notified, cb1Flags, or_onlyIf]
    by_cases hactive : level = s.pcr.getLsbD 4
    · simp only [cb1Active, hactive, beq_self_eq_true, if_true, Bool.true_and]
    · simp only [cb1Active, hactive, beq_eq_false_iff_ne.2 hactive, Bool.false_and, Bool.false_eq_true, if_false]
  rw [notified, srExtEdge_eq_clocked]
  rfl

/-- Where bit 7 stands recomputed, raising further flags, or none, is one recomputation of all of them. -/
theorem raised_combine (ifr ier mask : Byte) : raised (combine ifr ier) ier mask = combine (ifr ||| mask) ier := by
  unfold raised
  split
  next hmask => rw [hmask, BitVec.or_zero]
  next => exact combine_or_combine _ _ _

theorem shiftEvents_combine (s : State) (ifr : Byte) : shiftEvents s (combine ifr s.ier) = shiftEvents s ifr := by
  unfold shiftEvents
  rw [request_combine_or]

/-- R194 with R222 and R227: one edge of CB1, field by field. -/
theorem edgeCb1_eq_fields (level : Bool) (s : State) :
    s.edgeCb1 level = { s with
      ifr := combine (cb1Flags level s ||| onlyIf (cb1Clocks level s && s.srCount == 7) 0x04#8) s.ier
      ilb := if cb1Active level s && s.acr.getLsbD 1 then s.pbIn else s.ilb
      sr := if cb1Clocks level s then shifted s else s.sr
      cb2 := if cb1Clocks level s && s.acr.getLsbD 4 then s.sr.getLsbD 7 else s.cb2
      srCount := if cb1Clocks level s then s.srCount + 1 else s.srCount
      events := s.events ++ [.irq (request (cb1Flags level s) s.ier)] ++
        (if cb1Clocks level s then shiftEvents s (cb1Flags level s) else []) } := by
  rw [edgeCb1_eq_clocked, clocked_eq, ← raised_combine, ← shiftEvents_combine s (cb1Flags level s)]
  rfl

theorem exec_edgeCb1 (level : Bool) (s : State) :
    exec (if level then .edgeCb1Rise else .edgeCb1Fall) s = .next (s.begin.edgeCb1 level) := by
  cases level <;> rfl

/-- Settles O27. -/
theorem edgeOnCb1SetsTheFlagAndClocksTheShifter : Obligations.EdgeOnCb1SetsTheFlagAndClocksTheShifter := by
  refine ⟨fun rest => decode_encode .edgeCb1Fall rest rfl, fun rest => decode_encode .edgeCb1Rise rest rfl,
    fun level s => ?_⟩
  rw [exec_edgeCb1, edgeCb1_eq_fields]
  rfl

/-! ### The lines through a port access -/

/-- `u` stands where a port access from `s` has its handshake left to do: the secondary lines have their modes and levels
of `s`, and nothing is reported of them. -/
structure BeforeHandshake (s u : State) : Prop where
  pcr : u.pcr = s.pcr
  ca2 : u.ca2 = s.ca2
  cb2 : u.cb2 = s.cb2
  ca2Quiet : ca2Levels u.events = []
  cb2Quiet : cb2Levels u.events = []

theorem ca2Levels_append (es fs : List Event) : ca2Levels (es ++ fs) = ca2Levels es ++ ca2Levels fs :=
  List.filterMap_append

theorem cb2Levels_append (es fs : List Event) : cb2Levels (es ++ fs) = cb2Levels es ++ cb2Levels fs :=
  List.filterMap_append

/-- R200: the handshake of pair A drives CA2 by its mode, and not CB2. -/
theorem BeforeHandshake.hsAccessA {s u : State} (h : BeforeHandshake s u) :
    ca2Levels u.hsAccessA.events = drives (modeA s) s.ca2 ∧ cb2Levels u.hsAccessA.events = [] ∧
    u.hsAccessA.ca2 = levelAfter (modeA s) s.ca2 ∧ u.hsAccessA.cb2 = s.cb2 := by
  have mode : modeA u = modeA s := by unfold modeA; rw [h.pcr]
  have other (ls : List Bool) : cb2Levels (ls.map .ca2) = [] := reports_map_ca2 (o := .cb2) ls nofun
  rw [hsAccessA_eq, mode, h.ca2]
  refine ⟨?_, ?_, rfl, h.cb2⟩
  · rw [ca2Levels_append, h.ca2Quiet, ca2Levels_map_ca2, List.nil_append]
  · rw [cb2Levels_append, h.cb2Quiet, other, List.nil_append]

/-- R200: the handshake of pair B drives CB2 by its mode, and not CA2. -/
theorem BeforeHandshake.hsAccessB {s u : State} (h : BeforeHandshake s u) :
    cb2Levels u.hsAccessB.events = drives (modeB s) s.cb2 ∧ ca2Levels u.hsAccessB.events = [] ∧
    u.hsAccessB.cb2 = levelAfter (modeB s) s.cb2 ∧ u.hsAccessB.ca2 = s.ca2 := by
  have mode : modeB u = modeB s := by unfold modeB; rw [h.pcr]
  have other (ls : List Bool) : ca2Levels (ls.map .cb2) = [] := reports_map_cb2 (o := .ca2) ls nofun
  rw [hsAccessB_eq, mode, h.cb2]
  refine ⟨?_, ?_, rfl, h.ca2⟩
  · rw [cb2Levels_append, h.cb2Quiet, cb2Levels_map_cb2, List.nil_append]
  · rw [ca2Levels_append, h.ca2Quiet, other, List.nil_append]

/-- The port accesses of pair A end with its handshake (R239, R269). -/
theorem exec_portAccessA {i : Instr} (hi : i = .rdOra ∨ ∃ v, i = .stOra v) (s : State) :
    ∃ u, BeforeHandshake s u ∧ exec i s = .next u.hsAccessA := by
  obtain rfl | ⟨v, rfl⟩ := hi
  · refine ⟨_, ?_, rfl⟩
    rw [loadInputLatchA_eq]
    exact ⟨rfl, rfl, rfl, rfl, rfl⟩
  · refine ⟨_, ?_, rfl⟩
    exact ⟨rfl, rfl, rfl, rfl, rfl⟩

/-- The port accesses of pair B end with its handshake. -/
theorem exec_portAccessB {i : Instr} (hi : i = .rdOrb ∨ ∃ v, i = .stOrb v) (s : State) :
    ∃ u, BeforeHandshake s u ∧ exec i s = .next u.hsAccessB := by
  obtain rfl | ⟨v, rfl⟩ := hi
  · refine ⟨_, ?_, rfl⟩
    rw [loadInputLatchB_eq]
    exact ⟨rfl, rfl, rfl, rfl, rfl⟩
  · refine ⟨_, ?_, rfl⟩
    exact ⟨rfl, rfl, rfl, rfl, rfl⟩

/-- Settles O59. -/
theorem pulseModeEmitsOnePairPerAccess : Obligations.PulseModeEmitsOnePairPerAccess := by
  refine fun s => ⟨fun hmode i hi => ?_, fun hmode i hi => ?_⟩
  · obtain ⟨u, hu, hexec⟩ := exec_portAccessA hi s
    have line := hu.hsAccessA
    rw [hmode] at line
    exact ⟨_, hexec, line⟩
  · obtain ⟨u, hu, hexec⟩ := exec_portAccessB hi s
    have line := hu.hsAccessB
    rw [hmode] at line
    exact ⟨_, hexec, line⟩

/-! ### CA2 apart from the port accesses of pair A -/

theorem ca2_output_of_handshake {s : State} (h : modeA s = 4) : s.pcr.getLsbD 3 = true := by
  have mode : ca2Mode s.pcr = modeHandshake := BitVec.eq_of_toNat_eq ((ca2Mode_toNat s).trans h)
  rw [← ca2Mode_getLsbD_two, mode]
  rfl

theorem ca2Levels_ite {c : Prop} [Decidable c] {es : List Event} (h : ca2Levels es = []) :
    ca2Levels (if c then es else []) = [] := by
  split
  · exact h
  · rfl

/-- D41: a shift drives CB2, never CA2. -/
theorem ca2Levels_shiftEvents (s : State) (ifr : Byte) : ca2Levels (shiftEvents s ifr) = [] := by
  unfold shiftEvents
  rw [ca2Levels_append, ca2Levels_ite rfl, ca2Levels_ite rfl, List.nil_append]

theorem ca2Levels_tickEvents (s : State) : ca2Levels (tickEvents s) = [] := by
  unfold tickEvents
  simp only [ca2Levels_append, List.append_eq_nil_iff]
  exact ⟨⟨⟨ca2Levels_ite rfl, ca2Levels_ite rfl⟩, ca2Levels_ite rfl⟩, ca2Levels_ite (ca2Levels_shiftEvents _ _)⟩

/-- An operation that neither moves CA2 nor reports a level for it. -/
structure Ca2Still (s t : State) : Prop where
  level : t.ca2 = s.ca2
  quiet : ca2Levels t.events = []

theorem ca2Still_ticked (s : State) : Ca2Still s s.ticked := by
  rw [ticked_eq]
  exact ⟨rfl, ca2Levels_tickEvents s⟩

theorem ca2Still_pulsed (s : State) : Ca2Still s s.pulsed := by
  rw [pulsed_eq]
  refine ⟨rfl, ?_⟩
  rw [ca2Levels_append, ca2Levels_ite rfl, ca2Levels_ite (ca2Levels_shiftEvents _ _), List.nil_append]

theorem ca2Still_edgeCa1 (level : Bool) (s : State) : Ca2Still s (s.begin.edgeCa1 level) := by
  rw [edgeCa1_eq_onlyIf]
  exact ⟨rfl, rfl⟩

/-- R193, D24: an output line ignores the notification. -/
theorem ca2Still_edgeCa2 (level : Bool) {s : State} (hout : s.pcr.getLsbD 3 = true) :
    Ca2Still s (s.begin.edgeCa2 level) := by
  have hbegin : s.begin.pcr.getLsbD 3 = true := hout
  rw [edgeCa2_eq, if_pos hbegin]
  exact ⟨rfl, rfl⟩

theorem ca2Still_edgeCb1 (level : Bool) (s : State) : Ca2Still s (s.begin.edgeCb1 level) := by
  rw [edgeCb1_eq_fields]
  refine ⟨rfl, ?_⟩
  rw [ca2Levels_append, ca2Levels_ite (ca2Levels_shiftEvents _ _), List.append_nil]
  rfl

theorem ca2Still_edgeCb2 (level : Bool) (s : State) : Ca2Still s (s.begin.edgeCb2 level) := by
  rw [edgeCb2_eq]
  split <;> exact ⟨rfl, rfl⟩

theorem ca2Still_portAccessB {i : Instr} {s t : State} (hi : i = .rdOrb ∨ ∃ v, i = .stOrb v)
    (h : exec i s = .next t) : Ca2Still s t := by
  obtain ⟨u, hu, hexec⟩ := exec_portAccessB hi s
  cases hexec.symm.trans h
  obtain ⟨-, hquiet, -, hlevel⟩ := hu.hsAccessB
  exact ⟨hlevel, hquiet⟩

theorem ca2Still_stAcr {v : Byte} {s t : State} (h : exec (.stAcr v) s = .next t) : Ca2Still s t := by
  cases h
  unfold State.acrTimer2Change State.acrShiftChange
  split <;> split <;> exact ⟨rfl, rfl⟩

/-- R198, D22: where CA2 is an output, only the port accesses of pair A, a PCR store and the control operations can
move it. -/
theorem exec_ca2Still {i : Instr} {s t : State} (h : exec i s = .next t) (hout : s.pcr.getLsbD 3 = true)
    (hi : commandIn i [0x01#8, 0x41#8, 0x0C#8, 0xC1#8, 0xC2#8, 0xC4#8] = false) : Ca2Still s t := by
  cases i with
  | stOra v | rdOra | stPcr v | reset | init | snapr b => cases hi
  | stOrb v => exact ca2Still_portAccessB (.inr ⟨v, rfl⟩) h
  | rdOrb => exact ca2Still_portAccessB (.inl rfl) h
  | stAcr v => exact ca2Still_stAcr h
  | rdOrax => cases h; rw [loadInputLatchA_eq]; exact ⟨rfl, rfl⟩
  | tick => cases h; exact ca2Still_ticked s
  | edgeCa1Fall | edgeCa1Rise => cases h; exact ca2Still_edgeCa1 _ s
  | edgeCa2Fall | edgeCa2Rise => cases h; exact ca2Still_edgeCa2 _ hout
  | edgeCb1Fall | edgeCb1Rise => cases h; exact ca2Still_edgeCb1 _ s
  | edgeCb2Fall | edgeCb2Rise => cases h; exact ca2Still_edgeCb2 _ s
  | edgePb6Fall => cases h; exact ca2Still_pulsed s
  | _ => cases h; exact ⟨rfl, rfl⟩

theorem portAccessA_of_commandIn {i : Instr} (h : commandIn i [0x01#8, 0x41#8] = true) :
    i = .rdOra ∨ ∃ v, i = .stOra v := by
  cases i with
  | rdOra => exact .inl rfl
  | stOra v => exact .inr ⟨v, rfl⟩
  | _ => cases h

/-- Settles O60. -/
theorem handshakeLineMovesOnlyOnPortAccess : Obligations.HandshakeLineMovesOnlyOnPortAccess := by
  intro i s t hmode h
  refine ⟨fun hi => ?_, fun hi => ?_⟩
  · obtain ⟨u, hu, hexec⟩ := exec_portAccessA (portAccessA_of_commandIn hi) s
    cases hexec.symm.trans h
    obtain ⟨hreports, -, hlevel, -⟩ := hu.hsAccessA
    rw [hmode] at hreports hlevel
    exact ⟨hlevel, hreports⟩
  · obtain ⟨hlevel, hquiet⟩ := exec_ca2Still h (ca2_output_of_handshake hmode) hi
    exact ⟨hlevel, hquiet⟩

end Sys2Proof.Machine
end

section
/-! The shifter (43_shift.md): through one TICK (R225, R226), along the sixteen TICKs that shift a byte out under the
system clock (R223, R225), and along eight levels of CB2 clocked in by CB1 (R223, R227). -/

namespace Sys2Proof.Machine

open Sys2Proof.Safety

/-! ### One TICK -/

theorem ticked_shifter (s : State) :
    s.ticked.sr = (if shiftDue s then shifted s else s.sr) ∧
    s.ticked.cb2 = (if shiftDue s && s.acr.getLsbD 4 then s.sr.getLsbD 7 else s.cb2) ∧
    s.ticked.srCount = (if shiftDue s then s.srCount + 1 else s.srCount) ∧
    s.ticked.srPhase = (if shiftSource s = 2 ∧ s.srCount < 8 then !s.srPhase else s.srPhase) ∧
    s.ticked.ifr.getLsbD 2 = (s.ifr.getLsbD 2 || (shiftDue s && s.srCount == 7)) := by
  rw [(ticked_ifr_bits s).2.2, ticked_eq]
  exact ⟨rfl, rfl, rfl, rfl, rfl⟩

/-- Settles O32. -/
theorem tickDrivesTheShifter : Obligations.TickDrivesTheShifter :=
  fun s => ⟨s.ticked, exec_tick s, ticked_shifter s⟩

/-! ### Shifting out under the system clock -/

/-- R37, R38: `acr[4:2]` of 110 is source 2 with direction out. -/
theorem shiftMode_cycleOut {s : State} (h : s.acr &&& 0x1C#8 = 0x18#8) :
    shiftSource s = 2 ∧ s.acr.getLsbD 4 = true := by
  unfold shiftSource
  generalize s.acr = acr at h ⊢
  revert acr
  decide

/-- In source 2 Timer 2 does not clock the shifter. -/
theorem shiftDue_of_cycle {s : State} (h : shiftSource s = 2) :
    shiftDue s = (decide (s.srCount < 8) && s.srPhase) := by
  simp [shiftDue, h]

/-- R222: the bit that leaves at bit 7 comes back at bit 0. -/
theorem shifted_of_out {s : State} (h : s.acr.getLsbD 4 = true) : shifted s = s.sr.rotateLeft 1 := by
  unfold shifted serialBit
  rw [if_pos h]
  generalize s.sr = sr
  revert sr
  decide

/-- A rotation of a byte, bit by bit. -/
theorem rotateLeft_getLsbD (v : Byte) {k i : Nat} (hk : k ≤ 8) (hi : i < 8) :
    (v.rotateLeft k).getLsbD i = v.getLsbD ((i + 8 - k) % 8) := by
  rw [BitVec.getLsbD_rotateLeft, Bool.cond_eq_ite]
  simp only [decide_eq_true_eq, hi, decide_true, Bool.true_and]
  split
  all_goals
    congr 1
    omega

theorem rotateLeft_rotateLeft_one (v : Byte) {k : Nat} (hk : k < 8) :
    (v.rotateLeft k).rotateLeft 1 = v.rotateLeft (k + 1) := by
  apply BitVec.eq_of_getLsbD_eq
  intro i hi
  rw [rotateLeft_getLsbD _ (by decide) hi, rotateLeft_getLsbD _ hk.le (Nat.mod_lt _ (by decide)),
    rotateLeft_getLsbD _ hk hi]
  congr 1
  omega

theorem rotateLeft_zero (v : Byte) : v.rotateLeft 0 = v := by
  apply BitVec.eq_of_getLsbD_eq
  intro i hi
  rw [rotateLeft_getLsbD _ (by decide) hi, Nat.sub_zero, Nat.add_mod_right, Nat.mod_eq_of_lt hi]

theorem rotateLeft_eight (v : Byte) : v.rotateLeft 8 = v := by
  apply BitVec.eq_of_getLsbD_eq
  intro i hi
  rw [rotateLeft_getLsbD _ le_rfl hi, Nat.add_sub_cancel, Nat.mod_eq_of_lt hi]

/-- R222, R223: the eighth shift sets the flag, and no other. -/
theorem complete_after_shift {n : Nat} (h : n < 8) : (n == 8 || n == 7) = (n + 1 == 8) := by
  rw [beq_false_of_ne h.ne, Bool.false_or, Bool.eq_iff_iff]
  simp

/-- `n` TICKs after a store of `v` in source 2 with direction out: two TICKs for each shift, up to eight shifts, and CB2
holds the bit shifted out last. -/
structure ShiftingOut (v : Byte) (n : Nat) (t : State) : Prop where
  mode : t.acr &&& 0x1C#8 = 0x18#8
  clock : 2 * t.srCount + t.srPhase.toNat = min n 16
  sr : t.sr = v.rotateLeft t.srCount
  flag : t.ifr.getLsbD 2 = (t.srCount == 8)
  line : 0 < t.srCount → t.cb2 = t.sr.getLsbD 0

/-- A TICK that does not shift is the first of two cycles, or finds the shifter halted. -/
theorem shiftingOut_ticked {v : Byte} {n : Nat} {t : State} (h : ShiftingOut v n t) :
    ShiftingOut v (n + 1) t.ticked := by
  obtain ⟨mode, clock, sr, flag, line⟩ := h
  obtain ⟨source, out⟩ := shiftMode_cycleOut mode
  obtain ⟨sr', line', count', phase', flag'⟩ := ticked_shifter t
  have mode' : t.ticked.acr &&& 0x1C#8 = 0x18#8 := ticked_acr t ▸ mode
  have due := shiftDue_of_cycle source
  cases hdue : shiftDue t
  case false =>
    simp only [hdue, Bool.false_and, Bool.false_eq_true, if_false, Bool.or_false] at sr' line' count' flag'
    have clock' : 2 * t.srCount + t.ticked.srPhase.toNat = min (n + 1) 16 := by
      rw [phase']
      split
      next running =>
        have first : t.srPhase = false := by rwa [due, decide_eq_true running.2, Bool.true_and] at hdue
        rw [first, Bool.toNat_false] at clock
        rw [first, Bool.not_false, Bool.toNat_true]
        omega
      next => omega
    rw [← count'] at clock' sr flag line
    exact ⟨mode', clock', sr'.trans sr, flag'.trans flag, by rwa [line', sr']⟩
  case true =>
    obtain ⟨running, phase⟩ : t.srCount < 8 ∧ t.srPhase = true := by
      rwa [due, Bool.and_eq_true, decide_eq_true_eq] at hdue
    simp only [hdue, running, source, out, phase, Bool.true_and, if_true, and_self, Bool.not_true]
      at sr' line' count' phase' flag'
    rw [shifted_of_out out] at sr'
    rw [phase, Bool.toNat_true] at clock
    exact {
      mode := mode'
      clock := by rw [count', phase', Bool.toNat_false]; omega
      sr := by rw [sr', sr, rotateLeft_rotateLeft_one v running, count']
      flag := by rw [flag', flag, count', complete_after_shift running]
      line := fun _ => by rw [line', sr', rotateLeft_getLsbD _ (by decide) (by decide)] }

theorem shiftingOut_loaded {v : Byte} {s loaded : State} (h : exec (.stSr v) s = .next loaded)
    (hmode : s.acr &&& 0x1C#8 = 0x18#8) : ShiftingOut v 0 loaded := by
  cases h
  exact {
    mode := hmode
    clock := rfl
    sr := (rotateLeft_zero v).symm
    flag := ifrClear_getLsbD_source _ .sr
    line := fun h => absurd h (Nat.lt_irrefl 0) }

/-- Settles O40. -/
theorem shiftOutOfAByteTakesSixteenTicks : Obligations.ShiftOutOfAByteTakesSixteenTicks := by
  intro v s loaded h hmode
  have along (n : Nat) : ShiftingOut v n (State.ticked^[n] loaded) :=
    iterate_invariant (shiftingOut_loaded h hmode) (fun _ _ => shiftingOut_ticked) n
  refine ⟨fun n hn => ⟨_, afterTicks_eq n loaded, ?_⟩, fun n hn => ⟨_, afterTicks_eq n loaded, ?_⟩⟩
  · obtain ⟨-, clock, sr, flag, -⟩ := along n
    have phase := Bool.toNat_le (State.ticked^[n] loaded).srPhase
    have count : (State.ticked^[n] loaded).srCount = n / 2 := by omega
    rw [count] at sr flag
    exact ⟨flag.trans (beq_false_of_ne (by omega)), count, sr⟩
  · obtain ⟨-, clock, sr, flag, line⟩ := along n
    have phase := Bool.toNat_le (State.ticked^[n] loaded).srPhase
    have count : (State.ticked^[n] loaded).srCount = 8 := by omega
    rw [count] at sr flag line
    rw [rotateLeft_eight] at sr
    exact ⟨flag, count, sr, (line (by decide)).trans (congrArg (·.getLsbD 0) sr)⟩

/-! ### Shifting in under CB1 -/

/-- R37, R38: `acr[4:2]` of 011 is source 3 with direction in. -/
theorem shiftMode_externalIn {s : State} (h : s.acr &&& 0x1C#8 = 0x0C#8) :
    shiftSource s = 3 ∧ s.acr.getLsbD 4 = false := by
  unfold shiftSource
  generalize s.acr = acr at h ⊢
  revert acr
  decide

theorem shifted_of_in {s : State} (h : s.acr.getLsbD 4 = false) : shifted s = shiftLeftIn s.sr s.cb2 := by
  rw [shifted, serialBit, h]
  rfl

/-- The state after a level was presented on CB2 and a rising edge notified on CB1. -/
def State.clockedIn (b : Bool) (s : State) : State := (s.begin.edgeCb2 b).begin.edgeCb1 true

theorem perform_clockIn (b : Bool) (rest : List Instr) (s : State) :
    perform (clockIn b ++ rest) s = perform rest (s.clockedIn b) := by
  cases b <;> rfl

/-- R195: an input CB2 takes the level, and of the shifter's fields nothing moves. -/
theorem edgeCb2_presents (b : Bool) {s : State} (h : s.pcr.getLsbD 7 = false) :
    ∃ (ifr : Byte) (events : List Event), ifr.getLsbD 2 = s.ifr.getLsbD 2 ∧
      s.begin.edgeCb2 b = { s.begin with cb2 := b, ifr := ifr, events := events } := by
  refine ⟨_, _, ?_, (edgeCb2_eq b s.begin).trans (if_neg (Bool.eq_false_iff.1 h))⟩
  rw [combine_getLsbD_of_lt _ _ (by decide)]
  split <;> simp

/-- R227: in source 3 with direction in a rising edge of CB1 shifts the level of CB2 in, until eight shifts are done. -/
theorem edgeCb1_shifts_in {s : State} (mode : s.acr &&& 0x1C#8 = 0x0C#8) (count : s.srCount < 8) :
    (s.edgeCb1 true).sr = shiftLeftIn s.sr s.cb2 ∧
    (s.edgeCb1 true).srCount = s.srCount + 1 ∧
    (s.edgeCb1 true).ifr.getLsbD 2 = (s.ifr.getLsbD 2 || s.srCount == 7) ∧
    (s.edgeCb1 true).acr = s.acr ∧ (s.edgeCb1 true).pcr = s.pcr := by
  obtain ⟨source, direction⟩ := shiftMode_externalIn mode
  have clocks : cb1Clocks true s = true := by rw [cb1Clocks, source, direction, decide_eq_true count]; rfl
  have flag (a c : Bool) : (onlyIf a 0x10#8 ||| onlyIf c 0x04#8).getLsbD 2 = c := by
    revert a c
    decide
  rw [edgeCb1_eq_fields, clocks]
  refine ⟨?_, rfl, ?_, rfl, rfl⟩
  · rw [if_pos rfl, shifted_of_in direction]
  · rw [combine_getLsbD_of_lt _ _ (by decide), cb1Flags, BitVec.or_assoc, BitVec.getLsbD_or, flag, Bool.true_and]

/-- What presenting one level and clocking it does to the shifter. -/
theorem clockedIn_shifts (b : Bool) {s : State} (mode : s.acr &&& 0x1C#8 = 0x0C#8) (input : s.pcr.getLsbD 7 = false)
    (count : s.srCount < 8) :
    (s.clockedIn b).sr = shiftLeftIn s.sr b ∧
    (s.clockedIn b).srCount = s.srCount + 1 ∧
    (s.clockedIn b).ifr.getLsbD 2 = (s.ifr.getLsbD 2 || s.srCount == 7) ∧
    (s.clockedIn b).acr = s.acr ∧ (s.clockedIn b).pcr = s.pcr := by
  obtain ⟨ifr, events, flag, presented⟩ := edgeCb2_presents b input
  rw [State.clockedIn, presented, ← flag]
  exact edgeCb1_shifts_in (s := { s.begin with cb2 := b, ifr := ifr, events := [] }) mode count

theorem shiftLeftIn_getLsbD_zero (sr : Byte) (b : Bool) : (shiftLeftIn sr b).getLsbD 0 = b := by
  cases b <;> simp [shiftLeftIn, bitAt]

theorem shiftLeftIn_getLsbD_succ (sr : Byte) (b : Bool) {k : Nat} (hk : k + 1 < 8) :
    (shiftLeftIn sr b).getLsbD (k + 1) = sr.getLsbD k := by
  have entering : (bitAt 0 b).getLsbD (k + 1) = false := by cases b <;> simp [bitAt]
  rw [shiftLeftIn, BitVec.getLsbD_or, entering, BitVec.getLsbD_shiftLeft]
  simp [-BitVec.getLsbD_eq_getElem, hk]

/-- In source 3 with direction in and CB2 an input, with the levels `taken` shifted in so far, the latest first: they
stand in `sr` from bit 0 up. -/
structure ShiftingIn (taken : List Bool) (t : State) : Prop where
  mode : t.acr &&& 0x1C#8 = 0x0C#8
  input : t.pcr.getLsbD 7 = false
  count : t.srCount = taken.length
  flag : t.ifr.getLsbD 2 = (t.srCount == 8)
  sr : ∀ k < taken.length, t.sr.getLsbD k = taken.getD k false

theorem shiftingIn_clockedIn {taken : List Bool} {t : State} (b : Bool) (h : ShiftingIn taken t)
    (room : taken.length < 8) : ShiftingIn (b :: taken) (t.clockedIn b) := by
  obtain ⟨mode, input, count, flag, sr⟩ := h
  have running : t.srCount < 8 := count ▸ room
  obtain ⟨sr', count', flag', acr', pcr'⟩ := clockedIn_shifts b mode input running
  exact {
    mode := acr' ▸ mode
    input := pcr' ▸ input
    count := count'.trans (congrArg Nat.succ count)
    flag := by rw [flag', flag, count', complete_after_shift running]
    sr := by
      rw [sr', List.length_cons]
      intro k hk
      cases k with
      | zero => exact shiftLeftIn_getLsbD_zero t.sr b
      | succ k =>
        rw [shiftLeftIn_getLsbD_succ t.sr b (by omega), List.getD_cons_succ]
        exact sr k (Nat.lt_of_succ_lt_succ hk) }

theorem shiftingIn_loaded {s loaded : State} (h : exec .rdSr s = .next loaded) (hmode : s.acr &&& 0x1C#8 = 0x0C#8)
    (hinput : s.pcr.getLsbD 7 = false) : ShiftingIn [] loaded := by
  cases h
  exact {
    mode := hmode
    input := hinput
    count := rfl
    flag := ifrClear_getLsbD_source _ .sr
    sr := fun k hk => absurd hk k.not_lt_zero }

theorem perform_clockIn_all (bits taken : List Bool) {t : State} (h : ShiftingIn taken t)
    (room : taken.length + bits.length ≤ 8) :
    ∃ u : State, perform (bits.flatMap clockIn) t = .next u ∧ ShiftingIn (bits.reverse ++ taken) u := by
  induction bits generalizing taken t with
  | nil => exact ⟨t, rfl, h⟩
  | cons b bits ih =>
    rw [List.length_cons] at room
    have next := shiftingIn_clockedIn b h (by omega)
    obtain ⟨u, hu, hin⟩ := ih (b :: taken) next (by rw [List.length_cons]; omega)
    rw [List.flatMap_cons, perform_clockIn, List.reverse_cons, List.append_assoc]
    exact ⟨u, hu, hin⟩

/-- Settles O41. -/
theorem shiftInCollectsEightLevels : Obligations.ShiftInCollectsEightLevels := by
  intro s loaded bits h hmode hinput hbits
  obtain ⟨t, run, -, -, count, flag, sr⟩ :=
    perform_clockIn_all bits [] (shiftingIn_loaded h hmode hinput) (by rw [hbits]; decide)
  rw [List.append_nil] at count sr
  rw [List.length_reverse, hbits] at count sr
  rw [count] at flag
  refine ⟨t, run, count, flag, fun k => ?_⟩
  rw [sr _ (by omega), List.getD_reverse _ (by omega), hbits]
  congr 1
  omega

end Sys2Proof.Machine
end

section
/-! The STORE operations as equations of whole states (44_bus_store.md R240 to R255): the port accesses, the timers and
the shifter, the two control registers, and the flags and enables bit by bit. RD SR stands beside ST SR, since both
restart the shifter (45_bus_read_peek.md R280). -/

namespace Sys2Proof.Machine

open Sys2Proof.Safety

/-! ### Flags and enables, bit by bit -/

theorem getLsbD_and_lowSeven (x : Byte) (k : Nat) : (x &&& 0x7F#8).getLsbD k = (x.getLsbD k && decide (k < 7)) := by
  have mask : 0x7F#8 = (BitVec.allOnes 7).setWidth 8 := rfl
  rw [BitVec.getLsbD_and, mask, BitVec.getLsbD_setWidth, BitVec.getLsbD_allOnes]
  by_cases hk : k < 8
  · rw [decide_eq_true hk, Bool.true_and]
  · rw [BitVec.getLsbD_of_ge x k (by omega), Bool.false_and, Bool.false_and]

/-- 10_state.md R33: the request is some flag below 7 with its enable. -/
theorem request_iff_exists (ifr ier : Byte) :
    request ifr ier = true ↔ ∃ k < 7, ifr.getLsbD k = true ∧ ier.getLsbD k = true := by
  have bit (k : Nat) : (ifr &&& ier &&& 0x7F#8).getLsbD k = true ↔
      k < 7 ∧ ifr.getLsbD k = true ∧ ier.getLsbD k = true := by
    rw [getLsbD_and_lowSeven, BitVec.getLsbD_and, Bool.and_eq_true, Bool.and_eq_true, decide_eq_true_eq]
    exact and_comm
  rw [request_iff, ← not_iff_not, not_not]
  constructor
  · rintro hzero ⟨k, hk⟩
    have hbit := (bit k).2 hk
    rw [hzero, BitVec.getLsbD_zero] at hbit
    exact Bool.false_ne_true hbit
  · intro hnone
    refine BitVec.eq_of_getLsbD_eq fun k _ => ?_
    rw [BitVec.getLsbD_zero, ← Bool.not_eq_true, bit]
    exact fun hk => hnone ⟨k, hk⟩

/-- R33, R171: bit 7 of the flags that the combinator writes is right for those very flags. -/
theorem combine_getLsbD_seven_iff (ifr ier : Byte) :
    (combine ifr ier).getLsbD 7 = true ↔
      ∃ k < 7, (combine ifr ier).getLsbD k = true ∧ ier.getLsbD k = true := by
  rw [combine_getLsbD_seven, ← request_of_low_bits ier (combine_low_bits ifr ier), request_iff_exists]

theorem not_and_lowSeven_getLsbD (m : Byte) {k : Nat} (h : k < 7) : (~~~(m &&& 0x7F#8)).getLsbD k = !m.getLsbD k := by
  have byte : k < 8 := by omega
  rw [BitVec.getLsbD_not, getLsbD_and_lowSeven, decide_eq_true h, decide_eq_true byte, Bool.and_true, Bool.true_and]

/-- R254: bit 7 of the operand where it has a 1, the old enable elsewhere. -/
theorem enablesAfter_getLsbD_of_lt (ier v : Byte) {k : Nat} (h : k < 7) :
    (enablesAfter ier v).getLsbD k = if v.getLsbD k then v.getLsbD 7 else ier.getLsbD k := by
  unfold enablesAfter
  cases v.getLsbD 7
  case true =>
    rw [if_pos rfl, BitVec.getLsbD_or, getLsbD_and_lowSeven, decide_eq_true h, Bool.and_true]
    cases v.getLsbD k <;> simp
  case false =>
    rw [if_neg Bool.false_ne_true, BitVec.getLsbD_and, not_and_lowSeven_getLsbD v h]
    cases v.getLsbD k <;> simp

theorem exec_stIfr (v : Byte) (s : State) :
    exec (.stIfr v) s = .next { s with
      ifr := combine (s.ifr &&& ~~~(v &&& 0x7F#8)) s.ier
      events := [.irq ((combine (s.ifr &&& ~~~(v &&& 0x7F#8)) s.ier).getLsbD 7)]
      result := .none } := by
  rw [combine_getLsbD_seven]
  exact congrArg Host.Outcome.next (ifrClear_eq s.begin v)

theorem exec_stIer (v : Byte) (s : State) :
    exec (.stIer v) s = .next { s with
      ier := enablesAfter s.ier v
      ifr := combine s.ifr (enablesAfter s.ier v)
      events := [.irq ((combine s.ifr (enablesAfter s.ier v)).getLsbD 7)]
      result := .none } := by
  rw [combine_getLsbD_seven]
  exact congrArg Host.Outcome.next (irqUpdate_eq { s.begin with ier := enablesAfter s.ier v })

/-- Settles O14: bit 7 is R33's by the combinator, and each bit below it is the clear's or the operand's. -/
theorem flagAndEnableStores : Obligations.FlagAndEnableStores := by
  refine ⟨fun v rest => decode_encode (.stIfr v) rest rfl, fun v rest => decode_encode (.stIer v) rest rfl,
    fun v s => ⟨_, exec_stIfr v s, ?_, ?_⟩, fun v s => ⟨_, _, exec_stIer v s, ?_, ?_, ?_, ?_⟩⟩
  · intro k hk
    rw [combine_getLsbD_of_lt _ _ hk, BitVec.getLsbD_and, not_and_lowSeven_getLsbD v hk]
  · exact combine_getLsbD_seven_iff _ _
  · exact fun k hk => enablesAfter_getLsbD_of_lt s.ier v hk
  · exact enablesAfter_getLsbD_seven s.ier v
  · exact fun k hk => combine_getLsbD_of_lt s.ifr _ hk
  · exact combine_getLsbD_seven_iff _ _

/-! ### Port accesses -/

/-- 42_handshake.md R201 and R200, the flag clear and the handshake of a port access of pair A. -/
theorem portAccessA_eq (s : State) :
    (s.ifrClear (clearMaskA s.pcr)).hsAccessA = { s with
      ifr := combine (s.ifr &&& keptByAccess (modeA s) 0x02#8 0x01#8) s.ier
      ca2 := levelAfter (modeA s) s.ca2
      events := s.events ++ [.irq (request (s.ifr &&& keptByAccess (modeA s) 0x02#8 0x01#8) s.ier)] ++
        (drives (modeA s) s.ca2).map .ca2 } := by
  rw [ifrClear_eq, and_not_clearMaskA, hsAccessA_eq]
  rfl

/-- 42_handshake.md R201 and R200, the flag clear and the handshake of a port access of pair B. -/
theorem portAccessB_eq (s : State) :
    (s.ifrClear (clearMaskB s.pcr)).hsAccessB = { s with
      ifr := combine (s.ifr &&& keptByAccess (modeB s) 0x10#8 0x08#8) s.ier
      cb2 := levelAfter (modeB s) s.cb2
      events := s.events ++ [.irq (request (s.ifr &&& keptByAccess (modeB s) 0x10#8 0x08#8) s.ier)] ++
        (drives (modeB s) s.cb2).map .cb2 } := by
  rw [ifrClear_eq, and_not_clearMaskB, hsAccessB_eq]
  rfl

/-- Settles O7: after the latch and its event, the flag clear and the handshake of the pair. -/
theorem portStoresWriteLatchClearFlagsAndHandshake : Obligations.PortStoresWriteLatchClearFlagsAndHandshake := by
  refine ⟨fun v rest => decode_encode (.stOrb v) rest rfl, fun v rest => decode_encode (.stOra v) rest rfl,
    fun v s => ?_, fun v s => ?_⟩
  · exact congrArg Host.Outcome.next (portAccessB_eq (State.emitPortB { s.begin with orb := v }))
  · exact congrArg Host.Outcome.next (portAccessA_eq (State.emitPortA { s.begin with ora := v }))

/-! ### Stores that write one register -/

/-- Settles O8: nothing but the register and its event is written, so the two states are the same field by field. -/
theorem plainStoresWriteOneRegister : Obligations.PlainStoresWriteOneRegister :=
  ⟨fun v rest => decode_encode (.stDdra v) rest rfl, fun v rest => decode_encode (.stT1cl v) rest rfl,
    fun v rest => decode_encode (.stT2cl v) rest rfl, fun _ _ => rfl, fun _ _ => rfl, fun _ _ => rfl⟩

/-- Settles O9, as O8: no flag clear and no handshake stands in these three. -/
theorem storesThatAreNoPortAccess : Obligations.StoresThatAreNoPortAccess :=
  ⟨fun v rest => decode_encode (.stDdrb v) rest rfl, fun v rest => decode_encode (.stT1ll v) rest rfl,
    fun v rest => decode_encode (.stOrax v) rest rfl, fun _ _ => rfl, fun _ _ => rfl, fun _ _ => rfl⟩

/-! ### Stores that clear the flag of a timer or of the shifter

`ifrClear_eq` with the mask of one source: what that mask keeps of the flags evaluates to the byte the spec names. -/

/-- Settles O10: in each the flag clear comes last, on the state that the timer's own writes left. -/
theorem timerHighByteStores : Obligations.TimerHighByteStores :=
  ⟨fun v rest => decode_encode (.stT1ch v) rest rfl, fun v rest => decode_encode (.stT1lh v) rest rfl,
    fun v rest => decode_encode (.stT2ch v) rest rfl,
    fun _ _ => congrArg Host.Outcome.next (ifrClear_eq _ (sourceMask .t1)),
    fun _ _ => congrArg Host.Outcome.next (ifrClear_eq _ (sourceMask .t1)),
    fun _ _ => congrArg Host.Outcome.next (ifrClear_eq _ (sourceMask .t2))⟩

/-- Settles O11: the restart comes after the flag clear and writes neither flags nor events. -/
theorem shiftRegisterAccessesRestartTheShifter : Obligations.ShiftRegisterAccessesRestartTheShifter :=
  ⟨fun v rest => decode_encode (.stSr v) rest rfl, fun rest => decode_encode .rdSr rest rfl,
    fun _ _ => congrArg (Host.Outcome.next ∘ State.srRestart) (ifrClear_eq _ (sourceMask .sr)),
    fun _ => congrArg (Host.Outcome.next ∘ State.srRestart) (ifrClear_eq _ (sourceMask .sr))⟩

/-! ### The control registers -/

/-- R251, the first consequence: both shifter fields by whether `acr[4:2]` changed. -/
theorem acrShiftChange_eq (old new : Byte) (s : State) :
    s.acrShiftChange old new = { s with
      srCount := if (old ^^^ new) &&& 0x1C#8 = 0#8 then s.srCount else 8
      srPhase := if (old ^^^ new) &&& 0x1C#8 = 0#8 then s.srPhase else false } := by
  unfold State.acrShiftChange
  simp only [srMode_eq_iff]
  split <;> rfl

/-- R251, the second consequence (40_timers.md R143): the pending action by whether `acr[5]` changed. -/
theorem acrTimer2Change_eq (old new : Byte) (s : State) :
    s.acrTimer2Change old new =
      { s with t2Pend := if (old ^^^ new) &&& 0x20#8 = 0#8 then s.t2Pend else 0 } := by
  unfold State.acrTimer2Change
  simp only [t2Pulse_eq_iff]
  split <;> rfl

/-- Settles O12: the two consequences write different fields, so their order does not matter. -/
theorem storeAcrHaltsTheShifterAndCancelsTimer2 : Obligations.StoreAcrHaltsTheShifterAndCancelsTimer2 := by
  refine ⟨fun v rest => decode_encode (.stAcr v) rest rfl, fun v s => ?_⟩
  dsimp only [exec, execStAcr]
  rw [acrShiftChange_eq, acrTimer2Change_eq]
  rfl

/-- 42_handshake.md R197, the CA2 half as one state: level and events by whether `pcr[3:1]` changed. -/
theorem rederiveA_eq_fields (old new : Byte) (s : State) :
    s.rederiveA old new = { s with
      ca2 := if (old ^^^ new) &&& 0x0E#8 = 0#8 then s.ca2 else !(new &&& 0x0E#8 == 0x0C#8)
      events := s.events ++
        (if (old ^^^ new) &&& 0x0E#8 = 0#8 then [] else [.ca2 (!(new &&& 0x0E#8 == 0x0C#8))]) } := by
  rw [rederiveA_eq]
  split
  · rw [List.append_nil]
  · rfl

/-- 42_handshake.md R197, the CB2 half, by whether `pcr[7:5]` changed. -/
theorem rederiveB_eq_fields (old new : Byte) (s : State) :
    s.rederiveB old new = { s with
      cb2 := if (old ^^^ new) &&& 0xE0#8 = 0#8 then s.cb2 else !(new &&& 0xE0#8 == 0xC0#8)
      events := s.events ++
        (if (old ^^^ new) &&& 0xE0#8 = 0#8 then [] else [.cb2 (!(new &&& 0xE0#8 == 0xC0#8))]) } := by
  rw [rederiveB_eq]
  split
  · rw [List.append_nil]
  · rfl

/-- Settles O13: each half of the rederivation writes its own line and appends its own event. -/
theorem storePcrRederivesTheSecondaryLines : Obligations.StorePcrRederivesTheSecondaryLines := by
  refine ⟨fun v rest => decode_encode (.stPcr v) rest rfl, fun v s => ?_⟩
  dsimp only [exec, execStPcr]
  rw [rederiveA_eq_fields, rederiveB_eq_fields]
  rfl

end Sys2Proof.Machine
end

section
/-! READ and PEEK (45_bus_read_peek.md R269 to R302): both return the byte at the address; PEEK does nothing
else, and READ then performs the side effects of the address. The READs and PEEKs as equations of whole states;
that of RD SR stands beside ST SR. -/

namespace Sys2Proof.Machine

open Sys2Proof.Safety

/-! ### The byte at an address, and what a READ does beside returning it -/

/-- The byte that READ and PEEK of an address return (R270 to R301). -/
def State.byteAt (s : State) (a : BitVec 4) : Byte :=
  match a.toNat with
  | 0 => s.portBValue
  | 1 => s.portAValue
  | 2 => s.ddrb
  | 3 => s.ddra
  | 4 => lowByte s.t1c
  | 5 => highByte s.t1c
  | 6 => s.t1ll
  | 7 => s.t1lh
  | 8 => lowByte s.t2c
  | 9 => highByte s.t2c
  | 10 => s.sr
  | 11 => s.acr
  | 12 => s.pcr
  | 13 => s.ifr
  | 14 => s.ier
  | _ => s.portAValue

/-- R269: the side effects of a READ, in the order latch, flags, handshake or shift restart. -/
def State.readEffects (s : State) (a : BitVec 4) : State :=
  match a.toNat with
  | 0 => (s.loadInputLatchB.ifrClear (clearMaskB s.pcr)).hsAccessB
  | 1 => (s.loadInputLatchA.ifrClear (clearMaskA s.pcr)).hsAccessA
  | 4 => s.ifrClear (sourceMask .t1)
  | 8 => s.ifrClear (sourceMask .t2)
  | 10 => (s.ifrClear (sourceMask .sr)).srRestart
  | 15 => s.loadInputLatchA
  | _ => s

/-- R302 (b). -/
theorem exec_peekOp (a : BitVec 4) (s : State) : exec (peekOp a) s = .next (s.begin.returnByte (s.byteAt a)) := by
  obtain ⟨n, hn⟩ := a
  interval_cases n <;> rfl

theorem exec_readOp (a : BitVec 4) (s : State) :
    exec (readOp a) s = .next ((s.begin.returnByte (s.byteAt a)).readEffects a) := by
  obtain ⟨n, hn⟩ := a
  interval_cases n <;> rfl

@[simp] theorem loadInputLatchA_result (s : State) : s.loadInputLatchA.result = s.result := by
  rw [loadInputLatchA_eq]

@[simp] theorem loadInputLatchB_result (s : State) : s.loadInputLatchB.result = s.result := by
  rw [loadInputLatchB_eq]

@[simp] theorem State.readEffects_result (s : State) (a : BitVec 4) : (s.readEffects a).result = s.result := by
  unfold State.readEffects
  split <;> simp

/-- R302 (c). -/
theorem State.readEffects_of_mem {a : BitVec 4} (ha : a.toNat ∈ [2, 3, 5, 6, 7, 9, 11, 12, 13, 14]) (s : State) :
    s.readEffects a = s := by
  unfold State.readEffects
  split
  case h_7 => rfl -- the addresses without side effect
  all_goals
    next haddress =>
      rw [haddress] at ha
      contradiction

/-- Settles O22: READ and PEEK return the byte at the address, and no side effect of a READ replaces it. -/
theorem peekReturnsWhatReadReturns : Obligations.PeekReturnsWhatReadReturns := by
  refine ⟨fun a s => ⟨_, _, s.byteAt a, exec_peekOp a s, exec_readOp a s, rfl, ?_, rfl⟩, fun a s ha => ?_⟩
  · rw [State.readEffects_result, State.returnByte_result]
  · rw [exec_readOp, exec_peekOp, State.readEffects_of_mem ha]

/-! ### Output bits of a port -/

/-- R302 (e) for the composition of a port value, wherever its input comes from. -/
theorem portValue_getLsbD_of_output {latch direction : Byte} {k : Nat} (hk : direction.getLsbD k = true)
    (input : Byte) : (portValue latch direction input).getLsbD k = latch.getLsbD k := by
  rw [portValue_getLsbD latch direction input (BitVec.lt_of_getLsbD hk), if_pos hk]

/-- R302 (a) for the result alone: READ and PEEK of an address return the byte there. -/
theorem result_of_readOp_or_peekOp {a : BitVec 4} {i : Instr} (hi : i = readOp a ∨ i = peekOp a) (s : State) :
    ∃ t, exec i s = .next t ∧ t.result = .byte (s.byteAt a) := by
  obtain rfl | rfl := hi
  · exact ⟨_, exec_readOp a s, State.readEffects_result _ a⟩
  · exact ⟨_, exec_peekOp a s, rfl⟩

/-- Settles O23: each operation returns the composed value of its port, which has the latch's bit on an output. -/
theorem portReadsNeverSurfacePinsOnOutputBits : Obligations.PortReadsNeverSurfacePinsOnOutputBits := by
  refine fun s pa pb k => ⟨fun hk i hi => ?_, fun hk i hi => ?_⟩
  · have haddress : i = .rdOrb ∨ i = .pkOrb := by simpa using hi
    obtain ⟨t, hexec, hresult⟩ := result_of_readOp_or_peekOp (a := 0) haddress { s with paIn := pa, pbIn := pb }
    exact ⟨t, _, hexec, hresult, portValue_getLsbD_of_output hk _⟩
  · have haddress : (i = .rdOra ∨ i = .pkOra) ∨ i = .rdOrax ∨ i = .pkOrax := by simpa [or_assoc] using hi
    obtain ⟨t, hexec, hresult⟩ :
        ∃ t, exec i { s with paIn := pa, pbIn := pb } = .next t ∧
          t.result = .byte (State.portAValue { s with paIn := pa, pbIn := pb }) :=
      haddress.elim (result_of_readOp_or_peekOp (a := 1) · _) (result_of_readOp_or_peekOp (a := 15) · _)
    exact ⟨t, _, hexec, hresult, portValue_getLsbD_of_output hk _⟩

/-! ### READs as equations of whole states -/

/-- Settles O15: after the value, the transparent latch, and then the flag clear and the handshake of the pair. -/
theorem portReadsComposeLatchClearAndHandshake : Obligations.PortReadsComposeLatchClearAndHandshake := by
  refine ⟨fun rest => decode_encode .rdOrb rest rfl, fun rest => decode_encode .rdOra rest rfl,
    fun s => ?_, fun s => ?_⟩
  · dsimp only [exec, execRdOrb]
    rw [loadInputLatchB_eq]
    exact congrArg Host.Outcome.next (portAccessB_eq _)
  · dsimp only [exec, execRdOra]
    rw [loadInputLatchA_eq]
    exact congrArg Host.Outcome.next (portAccessA_eq _)

/-- The answer of an operation that returns a byte and does nothing else, whichever way the byte is written. -/
theorem next_returnByte {v w : Byte} (h : v = w) (s : State) :
    (.next (s.begin.returnByte v) : Host.Outcome State Fault Refusal) =
      .next { s with events := [], result := .byte w } := by
  rw [h]
  rfl

/-- Settles O16: nothing stands in these but the byte, for the counters the high one. -/
theorem plainReadsReturnTheRegister : Obligations.PlainReadsReturnTheRegister :=
  ⟨fun rest => decode_encode .rdDdrb rest rfl, fun rest => decode_encode .rdDdra rest rfl,
    fun rest => decode_encode .rdT1ch rest rfl, fun rest => decode_encode .rdT1ll rest rfl,
    fun rest => decode_encode .rdT1lh rest rfl, fun rest => decode_encode .rdT2ch rest rfl,
    fun rest => decode_encode .rdAcr rest rfl, fun rest => decode_encode .rdPcr rest rfl,
    fun rest => decode_encode .rdIfr rest rfl,
    fun s => ⟨rfl, rfl, next_returnByte (highByte_eq_ofNat s.t1c) s, rfl, rfl,
      next_returnByte (highByte_eq_ofNat s.t2c) s, rfl, rfl, rfl⟩⟩

/-- Settles O17: the flag clear with the mask of one source, on the state that holds the live low byte as result. -/
theorem counterLowReadsClearTheFlag : Obligations.CounterLowReadsClearTheFlag := by
  refine ⟨fun rest => decode_encode .rdT1cl rest rfl, fun rest => decode_encode .rdT2cl rest rfl,
    fun s => ?_, fun s => ?_⟩
  · rw [← lowByte_eq_ofNat]
    exact congrArg Host.Outcome.next (ifrClear_eq (s.begin.returnByte (lowByte s.t1c)) (sourceMask .t1))
  · rw [← lowByte_eq_ofNat]
    exact congrArg Host.Outcome.next (ifrClear_eq (s.begin.returnByte (lowByte s.t2c)) (sourceMask .t2))

/-- 10_state.md R34 as a number: the enables of a legal state fit in seven bits. -/
theorem ier_toNat_lt_of_legal {s : State} (hs : Legal s) : s.ier.toNat < 128 :=
  BitVec.toNat_lt_of_msb_false (BitVec.msb_eq_getLsbD_last s.ier ▸ hs.ier7)

/-- Settles O18: of a port access RD ORAX has the transparent latch alone. -/
theorem readOraxAndReadIer : Obligations.ReadOraxAndReadIer :=
  ⟨fun rest => decode_encode .rdOrax rest rfl, fun rest => decode_encode .rdIer rest rfl,
    fun _ => congrArg Host.Outcome.next (loadInputLatchA_eq _), fun _ => rfl,
    fun s hs => ⟨s.ier, ier_toNat_lt_of_legal hs, rfl⟩⟩

/-! ### PEEKs as equations of whole states -/

/-- Settles O19: PK ORAX and PK ORA return the same composed value. -/
theorem portPeeksComposeWithoutSideEffect : Obligations.PortPeeksComposeWithoutSideEffect :=
  ⟨fun rest => decode_encode .pkOrb rest rfl, fun rest => decode_encode .pkOra rest rfl,
    fun rest => decode_encode .pkOrax rest rfl, fun _ => rfl, fun _ => rfl, fun _ => rfl⟩

/-- Settles O20: as O16, with the low bytes of the counters too, whose flags a PEEK leaves alone. -/
theorem directionAndTimerPeeks : Obligations.DirectionAndTimerPeeks :=
  ⟨fun rest => decode_encode .pkDdrb rest rfl, fun rest => decode_encode .pkDdra rest rfl,
    fun rest => decode_encode .pkT1cl rest rfl, fun rest => decode_encode .pkT1ch rest rfl,
    fun rest => decode_encode .pkT1ll rest rfl, fun rest => decode_encode .pkT1lh rest rfl,
    fun rest => decode_encode .pkT2cl rest rfl, fun rest => decode_encode .pkT2ch rest rfl,
    fun s => ⟨rfl, rfl, next_returnByte (lowByte_eq_ofNat s.t1c) s, next_returnByte (highByte_eq_ofNat s.t1c) s,
      rfl, rfl, next_returnByte (lowByte_eq_ofNat s.t2c) s, next_returnByte (highByte_eq_ofNat s.t2c) s⟩⟩

/-- Settles O21. -/
theorem shiftAndControlPeeks : Obligations.ShiftAndControlPeeks :=
  ⟨fun rest => decode_encode .pkSr rest rfl, fun rest => decode_encode .pkAcr rest rfl,
    fun rest => decode_encode .pkPcr rest rfl, fun rest => decode_encode .pkIfr rest rfl,
    fun rest => decode_encode .pkIer rest rfl, fun _ => ⟨rfl, rfl, rfl, rfl, rfl⟩, fun _ => ier_toNat_lt_of_legal⟩

end Sys2Proof.Machine
end

section
/-! RESET, INIT and the snapshot (46_system_snapshot.md R320 to R327): the one state RESET goes to, the two things SNAPR
does as equations of whole states, and the round trip, in which the bytes SNAPW returns meet what SNAPR asks of a payload.
-/

namespace Sys2Proof.Machine

open Sys2Proof.Safety

/-! ### RESET and INIT -/

/-- R320: the state after RESET, in which nothing of the state before is left but what the environment presents. -/
def resetIn (e : Environment) : State :=
  { State.reset with
    t1c := Config.freeHalf e.draws
    t1ll := Config.freeByte (e.draws + 1)
    t1lh := Config.freeByte (e.draws + 2)
    t2c := Config.freeHalf (e.draws + 3)
    t2ll := Config.freeByte (e.draws + 4)
    ila := Config.freeByte (e.draws + 5)
    ilb := Config.freeByte (e.draws + 6)
    paIn := e.paIn
    pbIn := e.pbIn
    pinFeed := e.pinFeed
    stream := e.stream
    draws := e.draws + 7 }

/-- Without a flag set there is nothing to recompute, and no request (41_interrupt_flags.md R171). -/
theorem irqUpdate_of_no_flag {s : State} (h : s.ifr = 0x00#8) : s.irqUpdate = s.emit (.irq false) := by
  have request_none : request 0x00#8 s.ier = false := by simp [request]
  have combine_none : combine 0x00#8 s.ier = 0x00#8 := by simp [combine, request_none]
  rw [irqUpdate_eq, h, combine_none, request_none, ← h]
  rfl

theorem exec_reset (s : State) : exec .reset s = .next (resetIn s.environment) := by
  have silent : s.begin.forceDefaults.drawAtReset.irqUpdate = s.begin.forceDefaults.drawAtReset.emit (.irq false) :=
    irqUpdate_of_no_flag rfl
  exact congrArg (fun t => Host.Outcome.next (t.emit .adapterReset)) silent

/-- Settles O42: `State.reset` has the defaults of R67, and RESET changes in it the unspecified fields alone. -/
theorem resetForcesTheDefaults : Obligations.ResetForcesTheDefaults :=
  ⟨fun rest => decode_encode .reset rest rfl, fun s => ⟨_, _, _, _, _, _, _, _, exec_reset s⟩⟩

/-- Settles O43. -/
theorem resetForgetsTheStateBefore : Obligations.ResetForgetsTheStateBefore := by
  intro s s' hpa hpb hfeed hstream hdraws
  have environment : s.environment = s'.environment := by
    simp only [State.environment, hpa, hpb, hfeed, hstream, hdraws]
  rw [exec_reset, exec_reset, environment]

/-- What an operation returns is no field of the block (10_state.md R20, R62, R65). -/
theorem sameBlock_returned (s : State) (es : List Event) (r : Result) :
    SameBlock { s with events := es, result := r } s := by
  unfold SameBlock
  simp only [and_self]

/-- Settles O44: what INIT leaves halted is what makes a TICK idle (40_timers.md R130). -/
theorem initDisablesTheStateMachines : Obligations.InitDisablesTheStateMachines := by
  refine ⟨fun rest => decode_encode .init rest rfl, fun s => ⟨s.begin.disableAll.drawAtInit, rfl, ?_⟩⟩
  have idle := idleTickChangesNothing s.begin.disableAll.drawAtInit rfl rfl (.inr rfl)
  exact ⟨rfl, rfl, rfl, rfl, rfl, rfl, rfl, rfl, rfl, rfl, rfl, rfl, _, idle, sameBlock_returned _ _ _⟩

/-! ### SNAPW -/

theorem toNat_lt_sixtyFour_iff (x : Byte) : x.toNat < 64 ↔ x.getLsbD 6 = false ∧ x.getLsbD 7 = false := by
  revert x
  decide

/-- R322: SNAPW, with the counters' bytes as numbers (20_memory.md R83). -/
theorem exec_snapw (s : State) :
    exec .snapw s = .next { s with
      events := []
      result := .snapshot [s.ora, s.orb, s.ddra, s.ddrb, BitVec.ofNat 8 s.t1c.toNat,
        BitVec.ofNat 8 (s.t1c.toNat / 256), s.t1ll, s.t1lh, BitVec.ofNat 8 s.t2c.toNat,
        BitVec.ofNat 8 (s.t2c.toNat / 256), s.t2ll, s.sr, s.acr, s.pcr, s.ifr, s.ier, s.ila, s.ilb,
        s.flagsA, s.flagsB, BitVec.ofNat 8 s.t1Pend, BitVec.ofNat 8 s.t2Pend] } := by
  rw [← lowByte_eq_ofNat, ← highByte_eq_ofNat, ← lowByte_eq_ofNat, ← highByte_eq_ofNat]
  rfl

/-- Settles O45: bits 6 and 7 of a flag byte are 0 because the byte is below 64. -/
theorem snapshotWriteReturnsTheLayout : Obligations.SnapshotWriteReturnsTheLayout := by
  refine ⟨fun rest => decode_encode .snapw rest rfl, fun s hcount hpend1 hpend2 => ⟨_, _, _, _, exec_snapw s, ?_⟩⟩
  obtain ⟨t1Run, t1Fired, t2Run, pulse, ca2, cb2, hflagsA⟩ := flagsA_bits s
  obtain ⟨count, phase, t1Out, hflagsB⟩ := flagsB_bits s hcount
  obtain ⟨a6, a7⟩ := (toNat_lt_sixtyFour_iff _).1 hflagsA
  obtain ⟨b6, b7⟩ := (toNat_lt_sixtyFour_iff _).1 hflagsB
  exact ⟨t1Run, t1Fired, t2Run, pulse, ca2, cb2, a6, a7, count, phase, t1Out, b6, b7,
    Nat.mod_eq_of_lt hpend1, Nat.mod_eq_of_lt hpend2⟩

/-! ### SNAPR -/

/-- Settles O46: each disjunct contradicts one condition of R325, in its order. -/
theorem malformedSnapshotsChangeNothing : Obligations.MalformedSnapshotsChangeNothing := by
  intro s b hbroken
  have invalid : snapValid Config.t1Latency Config.t2Latency b = false := by
    refine Bool.eq_false_iff.2 fun hvalid => ?_
    obtain ⟨length, ⟨topA, topB⟩, count, pulse, ⟨pend1, pend2⟩, run1, run2, fired⟩ := (snapValid_iff _ _ _).1 hvalid
    rcases hbroken with h | h | h | h | h | h | h | ⟨hpend, h⟩ | ⟨hpend, h⟩ | ⟨hfired, h⟩
    · exact h length
    · exact topA.not_ge h
    · exact topB.not_ge h
    · exact count.not_gt h
    · exact h pulse
    · exact pend1.not_gt h
    · exact pend2.not_gt h
    · exact Bool.false_ne_true (h.symm.trans (run1 hpend))
    · obtain ⟨hrun, htimed⟩ := run2 hpend
      rcases h with h | h
      · exact Bool.false_ne_true (h.symm.trans hrun)
      · exact Bool.false_ne_true (htimed.symm.trans h)
    · exact Bool.false_ne_true ((fired hfired).symm.trans h)
  exact congrArg Host.Outcome.next (snapshotRead_of_not_valid invalid s)

theorem and_lowSeven_of_bit_seven {x : Byte} (h : x.getLsbD 7 = false) : x &&& 0x7F#8 = x := by
  revert x
  decide

/-- R33: the combined flag asks for no bit 7, of the flags or of the enables. -/
theorem request_lowSeven (ifr ier : Byte) : request (ifr &&& 0x7F#8) (ier &&& 0x7F#8) = request ifr ier := by
  have mask (m : Byte) : (ifr &&& m) &&& (ier &&& m) &&& m = ifr &&& ier &&& m := by grind
  unfold request
  rw [mask]

theorem recomputed_lowSeven (ifr ier : Byte) : recomputed (ifr &&& 0x7F#8) (ier &&& 0x7F#8) = combine ifr ier := by
  rw [recomputed_eq_combine]
  unfold combine
  rw [request_lowSeven, BitVec.and_assoc, BitVec.and_self]

/-- R326: what a successful SNAPR answers, with the flags and the count as the statements write them. -/
theorem restored_eq (b : List Byte) (s : State) :
    (s.begin.restore b).emitUndump.returnOk = { s.restore b with
      ifr := combine (payloadByte b 14) (payloadByte b 15)
      srCount := (payloadByte b 19).toNat % 16
      events := [.undumpPortA (payloadByte b 0) (payloadByte b 2), .undumpPortB (payloadByte b 1) (payloadByte b 3),
        .undumpPcr (payloadByte b 13), .undumpAcr (payloadByte b 12),
        .irqRestore (request (payloadByte b 14) (payloadByte b 15))]
      result := .ok } := by
  rw [← combine_getLsbD_seven, ← recomputed_lowSeven, ← low_nibble_toNat]
  rfl

/-- Settles O47: the hypotheses are the conditions of R325 in their order. -/
theorem validSnapshotsRestoreEveryField : Obligations.ValidSnapshotsRestoreEveryField := by
  refine ⟨fun _ rest hlength => decode_snapr rest hlength, ?_⟩
  intro s ora orb ddra ddrb t1cl t1ch t1ll t1lh t2cl t2ch t2ll sr acr pcr ifr ier ila ilb fa fb p1 p2
    topA topB count pulse pend1 pend2 run1 run2 fired
  have valid : snapValid Config.t1Latency Config.t2Latency [ora, orb, ddra, ddrb, t1cl, t1ch, t1ll, t1lh, t2cl, t2ch,
      t2ll, sr, acr, pcr, ifr, ier, ila, ilb, fa, fb, p1, p2] = true :=
    (snapValid_iff _ _ _).2 ⟨rfl, ⟨topA, topB⟩, count, pulse, ⟨pend1, pend2⟩, run1, run2, fired⟩
  exact congrArg Host.Outcome.next ((snapshotRead_of_valid valid s).trans (restored_eq _ s))

/-! ### The round trip -/

/-- Where R33 holds, recomputing bit 7 changes nothing. -/
theorem FlagsLegal.combine_eq {s : State} (h : FlagsLegal s) : combine s.ifr s.ier = s.ifr := by
  refine BitVec.eq_of_getLsbD_eq fun k hk => ?_
  rcases Nat.lt_succ_iff_lt_or_eq.1 hk with hk | rfl
  · exact combine_getLsbD_of_lt _ _ hk
  · rw [combine_getLsbD_seven, h.combined]

/-- 20_memory.md R83: the bytes of a counter, joined again. -/
theorem append_bytes (c : Half) : BitVec.ofNat 8 (c.toNat / 256) ++ BitVec.ofNat 8 c.toNat = c := by
  rw [← highByte_eq_ofNat, ← lowByte_eq_ofNat]
  exact joinBytes_bytes c

/-- 00_scope.md R8: the cycles left before an underflow action fit in a byte. -/
theorem byte_of_lt_latency {pending latency : Nat} (hpending : pending ≤ latency - 1) (hlatency : latency ≤ 255) :
    pending < 256 := by
  omega

/-- Settles O48: R41 gives the layout of O45 what O47 asks of a payload, and makes the recomputation of the flags and
the dropped bit of the enables no change. -/
theorem snapshotRoundTripRestoresTheBlock : Obligations.SnapshotRoundTripRestoresTheBlock := by
  intro s s' hs
  have bound1 : s.t1Pend < 256 := byte_of_lt_latency hs.t1Pend_le Config.t1Latency_le
  have bound2 : s.t2Pend < 256 := byte_of_lt_latency hs.t2Pend_le Config.t2Latency_le
  obtain ⟨fa, fb, p1, p2, write, t1Run, t1Fired, t2Run, pulse, ca2, cb2, a6, a7, count, phase, t1Out, b6, b7, pend1,
    pend2⟩ := snapshotWriteReturnsTheLayout.2 s hs.srCount_le bound1 bound2
  have read := validSnapshotsRestoreEveryField.2 s' s.ora s.orb s.ddra s.ddrb (BitVec.ofNat 8 s.t1c.toNat)
    (BitVec.ofNat 8 (s.t1c.toNat / 256)) s.t1ll s.t1lh (BitVec.ofNat 8 s.t2c.toNat)
    (BitVec.ofNat 8 (s.t2c.toNat / 256)) s.t2ll s.sr s.acr s.pcr s.ifr s.ier s.ila s.ilb fa fb p1 p2
    ((toNat_lt_sixtyFour_iff fa).2 ⟨a6, a7⟩) ((toNat_lt_sixtyFour_iff fb).2 ⟨b6, b7⟩)
  rw [t1Run, t1Fired, t2Run, ca2, cb2, count, phase, t1Out, pend1, pend2] at read
  have hread := read hs.srCount_le pulse hs.t1Pend_le hs.t2Pend_le hs.t1Pend_run hs.t2Pend_run hs.t1Fired_stopped
  refine ⟨_, _, _, write, rfl, sameBlock_returned _ _ _, rfl, hread, rfl, ?_⟩
  rw [append_bytes, append_bytes, ((legal_iff s).1 hs).2.combine_eq, and_lowSeven_of_bit_seven hs.ier7]
  unfold SameBlock
  simp only [and_self]

end Sys2Proof.Machine
end

section
/-! Errors and the order of events (60_exceptions.md R340, R342, R347): two timer actions in one TICK, and what an
operation can return (10_state.md R65). -/

namespace Sys2Proof.Machine

open Sys2Proof.Safety

/-! ### Two actions in one TICK -/

/-- R347 (a): Timer 2's event counts Timer 1's flag too. -/
theorem tickEvents_of_both_due {s : State} (h1 : timer1Due s = true) (h2 : timer2Due s = true)
    (hshift : shiftDue s = false) (htoggle : s.acr.getLsbD 7 = false) :
    tickEvents s = [.irq (request (s.ifr ||| 0x40#8) s.ier), .irq (request (s.ifr ||| 0x60#8) s.ier)] := by
  have both : s.ifr ||| 0x40#8 ||| 0x20#8 = s.ifr ||| 0x60#8 := BitVec.or_assoc _ _ _
  unfold tickEvents
  rw [h1, h2, hshift, htoggle, Bool.and_false, ← both]
  rfl

/-- Settles O35: TICK raises the flag of each action that is due, and reports them in the order of R130. -/
theorem bothTimersDueInOneTick : Obligations.BothTimersDueInOneTick := by
  intro s h1 h2 hshift htoggle
  obtain ⟨timer1, timer2, -⟩ := ticked_ifr_bits s
  refine ⟨s.ticked, exec_tick s, ?_, ?_, ?_⟩
  · rw [timer1, h1, Bool.or_true]
  · rw [timer2, h2, Bool.or_true]
  · rw [ticked_eq]
    exact tickEvents_of_both_due h1 h2 hshift htoggle

/-! ### Procedures that leave the result alone -/

theorem rederiveA_result (old new : Byte) (s : State) : (s.rederiveA old new).result = s.result := by
  rw [rederiveA_eq_fields]

theorem rederiveB_result (old new : Byte) (s : State) : (s.rederiveB old new).result = s.result := by
  rw [rederiveB_eq_fields]

theorem acrShiftChange_result (old new : Byte) (s : State) : (s.acrShiftChange old new).result = s.result := by
  rw [acrShiftChange_eq]

theorem acrTimer2Change_result (old new : Byte) (s : State) : (s.acrTimer2Change old new).result = s.result := by
  rw [acrTimer2Change_eq]

theorem edgeCa1_result (level : Bool) (s : State) : (s.edgeCa1 level).result = s.result := by
  rw [edgeCa1_eq_onlyIf]

theorem edgeCa2_result (level : Bool) (s : State) : (s.edgeCa2 level).result = s.result := by
  rw [edgeCa2_eq]
  split <;> rfl

theorem edgeCb1_result (level : Bool) (s : State) : (s.edgeCb1 level).result = s.result := by
  rw [edgeCb1_eq_fields]

theorem edgeCb2_result (level : Bool) (s : State) : (s.edgeCb2 level).result = s.result := by
  rw [edgeCb2_eq]
  split <;> rfl

/-! ### What an operation returns -/

/-- R65: what an operation other than SNAPR returns, by what its command byte decides. -/
def State.returned (s : State) (k : Kind) : Result :=
  match k with
  | .read a | .peek a => .byte (s.byteAt a)
  | .snapw => .snapshot s.snapshotBytes
  | _ => .none

theorem State.returned_no_restore (s : State) (k : Kind) : s.returned k ≠ .formatError ∧ s.returned k ≠ .ok := by
  unfold State.returned
  split <;> exact ⟨nofun, nofun⟩

/-- R340: no arm of the dispatch faults or refuses. -/
theorem exec_completes (i : Instr) (s : State) : ∃ t, exec i s = .next t := by
  cases i <;> exact ⟨_, rfl⟩

/-- R65: every meaning begins without a result, and the procedures it is built from leave what it returns
alone. -/
theorem exec_result {i : Instr} {s t : State} (h : exec i s = .next t) (hi : ∀ b, i ≠ .snapr b) :
    t.result = s.returned (decodeCmd (cmdOf i)) := by
  cases i with
  | snapr b => exact absurd rfl (hi b)
  | stAcr v => cases h; dsimp only [cmdOf]; exact (acrTimer2Change_result _ _ _).trans (acrShiftChange_result _ _ _)
  | stPcr v => cases h; dsimp only [cmdOf]; exact (rederiveB_result _ _ _).trans (rederiveA_result _ _ _)
  | rdOrb => cases h; exact State.readEffects_result (s.begin.returnByte s.portBValue) 0
  | rdOra => cases h; exact State.readEffects_result (s.begin.returnByte s.portAValue) 1
  | rdOrax => cases h; exact State.readEffects_result (s.begin.returnByte s.portAValue) 15
  | tick => cases h; exact congrArg State.result (ticked_eq s)
  | edgeCa1Fall | edgeCa1Rise => cases h; exact edgeCa1_result _ _
  | edgeCa2Fall | edgeCa2Rise => cases h; exact edgeCa2_result _ _
  | edgeCb1Fall | edgeCb1Rise => cases h; exact edgeCb1_result _ _
  | edgeCb2Fall | edgeCb2Rise => cases h; exact edgeCb2_result _ _
  | edgePb6Fall => cases h; exact congrArg State.result (pulsed_eq s)
  | _ => -- the command byte of a STORE does not depend on its operand
    cases h; dsimp only [cmdOf]; rfl

/-- Settles O49: what SNAPR alone can return is neither a byte, nor a snapshot, nor nothing. -/
theorem everyOperationCompletes : Obligations.EveryOperationCompletes := by
  intro i s
  obtain ⟨t, h⟩ := exec_completes i s
  refine ⟨t, h, fun hi => ?_⟩
  rw [exec_result h hi]
  exact s.returned_no_restore _

end Sys2Proof.Machine
end
